-- ==== Sys2Proof/Word.lean ====
section
/-! DEFINITION. The words, numbers and index sets of the KD-12 (spec/00_scope.md, Conventions). -/

namespace Sys2Proof

/-- One byte of a record, a packet or a register field. -/
abbrev Byte := BitVec 8

/-- A host address (spec/11: an address field is 64 bits). -/
abbrev Addr := BitVec 64

/-- A value of the Station Timer: a 48-bit count of microseconds (R12). -/
abbrev Time := BitVec 48

/-- A 32-bit count. Unless a rule says that it wraps it saturates (00_scope, Counters). -/
abbrev Counter := BitVec 32

/-- A sequence tag of a channel plan (R93). -/
abbrev Tag := BitVec 16

/-- A lane number, 0..11. -/
abbrev LaneId := Fin 12

/-- A stream number, 0..15. -/
abbrev StreamId := Fin 16

/-- A Mode Entry number, 0..7 (R15). -/
abbrev EntryId := Fin 8

/-- The twelve lanes in rising order. -/
def allLanes : List LaneId := [0, 1, 2, 3, 4, 5, 6, 7, 8, 9, 10, 11]

/-- The sixteen streams in rising order. -/
def allStreams : List StreamId := [0, 1, 2, 3, 4, 5, 6, 7, 8, 9, 10, 11, 12, 13, 14, 15]

/-- The eight Mode Entry numbers in rising order. -/
def allEntries : List EntryId := [0, 1, 2, 3, 4, 5, 6, 7]

end Sys2Proof
end

