-- ==== Sys2Proof/Syntax.lean ====
section
/-! DEFINITION. The commands of the KD-12: one constructor per row of spec/opcode_table.json. A command is one step of the part,
whole and indivisible (spec/95_what_each_step_holds.md): an event that a block takes or a host write of a register. -/

namespace Sys2Proof

/-- The two mast inputs (R1). -/
inductive Mast where
  | a
  | b
deriving DecidableEq, Repr

/-- How a memory read ends: with its data in full, or with READ_ERROR (R158, R164). -/
inductive ReadResult (n : Nat) where
  | data (bytes : Vector Byte n)
  | error
deriving DecidableEq, Repr

/-- How a memory write ends: accepted by the link, or with WRITE_ERROR (R158, R164). -/
inductive WriteResult where
  | accepted
  | error
deriving DecidableEq, Repr

/-- The commands. Operands are what the sender of the event supplies; everything the part itself holds (the hit flag and the mast
of a report, which transfer is in flight, which timer is due) is read from `State`. -/
inductive Instr where
  /-- IMPULSE_EVENT (R9, R10): `magnitude` is the wideband magnitude, in 1/256 of full scale, rounded up (log entry 5). -/
  | impulseEvent (mast : Mast) (magnitude : Fin 257)
  /-- SYMBOL_REPORT (R53): measured period P, signal power S, error power E and the frame-start flag. -/
  | symbolReport (lane : LaneId) (period : Fin 16384) (signal error : BitVec 16) (frameStart : Bool)
  /-- SURVEY_REPORT (R84): signal power S and error power E measured by the survey tap. -/
  | surveyReport (signal error : BitVec 16)
  /-- SEEK_TIMER_EXPIRY (R63). -/
  | seekTimerExpiry (lane : LaneId)
  /-- SURVEY_INTERVAL_EXPIRY (R64). -/
  | surveyIntervalExpiry (lane : LaneId)
  /-- APPLY_WINDOW_EXPIRY (R106). -/
  | applyWindowExpiry (lane : LaneId)
  /-- PACKET_GATE (R70): the 188 bytes, the mast the core tagged the packet with, the uncorrectable flag and the
  corrected-byte count. -/
  | packetGate (lane : LaneId) (packet : Vector Byte 188) (mast : Mast) (uncorrectable : Bool) (corrected : Fin 9)
  /-- ROUTE_PACKET (R117). -/
  | routePacket
  /-- FILTER_SWAP (R132). -/
  | filterSwap
  /-- FLUSH_TIMER_EXPIRY (R145). -/
  | flushTimerExpiry (stream : StreamId)
  /-- STATUS_INTERVAL_EXPIRY (R173). -/
  | statusIntervalExpiry
  /-- TRANSFER_GRANT (R161). -/
  | transferGrant
  /-- STATION_BLOCK_READ_COMPLETE (R170). -/
  | stationBlockReadComplete (result : ReadResult 256)
  /-- LANE_SLOT_READ_COMPLETE (R95). -/
  | laneSlotReadComplete (result : ReadResult 64)
  /-- LANE_SLOT_WRITE_BACK_COMPLETE (R112). -/
  | laneSlotWriteBackComplete (result : WriteResult)
  /-- FILTER_BLOCK_READ_COMPLETE (R130). -/
  | filterBlockReadComplete (result : ReadResult 256)
  /-- STREAM_RECORD_READ_COMPLETE (R138). -/
  | streamRecordReadComplete (result : ReadResult 64)
  /-- BUFFER_RECORD_READ_COMPLETE (R141). -/
  | bufferRecordReadComplete (result : ReadResult 32)
  /-- FILLING_WRITE_COMPLETE (R141). -/
  | fillingWriteComplete (result : WriteResult)
  /-- SLOT_WRITE_COMPLETE (R144). -/
  | slotWriteComplete (result : WriteResult)
  /-- CLOSING_FIELDS_WRITE_COMPLETE (R146). -/
  | closingFieldsWriteComplete (result : WriteResult)
  /-- MARK_WRITE_COMPLETE (R146). -/
  | markWriteComplete (result : WriteResult)
  /-- EMPTY_MARK_WRITE_COMPLETE (R150). -/
  | emptyMarkWriteComplete (result : WriteResult)
  /-- STREAM_WRITE_BACK_COMPLETE (R154). -/
  | streamWriteBackComplete (result : WriteResult)
  /-- STATUS_RECORD_WRITE_COMPLETE (R174). -/
  | statusRecordWriteComplete (result : WriteResult)
  /-- STOP_COMPLETE (R171). -/
  | stopComplete
  /-- RUN_SET (R169): a Control write with RUN = 1 and RESET = 0. -/
  | runSet
  /-- RUN_CLEAR (R169): a Control write with RUN = 0 and RESET = 0. -/
  | runClear
  /-- SOFT_RESET (R178): a Control write with RESET = 1, whatever its RUN. -/
  | softReset
  /-- POWER_ON_RESET (R178). -/
  | powerOnReset
  /-- EXCHANGE_BASE_LOW (R167): the value written. -/
  | exchangeBaseLow (value : BitVec 32)
  /-- EXCHANGE_BASE_HIGH (R167): the value written. -/
  | exchangeBaseHigh (value : BitVec 32)
  /-- ATTENTION_LANE (R172): one lane bit of an Attention write. -/
  | attentionLane (lane : LaneId)
  /-- ATTENTION_STREAM (R172): one stream bit of an Attention write. -/
  | attentionStream (stream : StreamId)
  /-- ATTENTION_FILTER (R172): the FILTER bit of an Attention write. -/
  | attentionFilter
  /-- ATTENTION_STATUS_NOW (R172): the STATUS-NOW bit of an Attention write. -/
  | attentionStatusNow
  /-- NOTICE_CLEAR (R176): the value written to the Notice register. -/
  | noticeClear (value : BitVec 32)
  /-- NOTICE_ENABLE (R177): the value written to the Notice Enable register. -/
  | noticeEnable (value : BitVec 32)
  /-- REGISTER_WRITE_IGNORED (R168): a write the part ignores whole. -/
  | registerWriteIgnored (offset : BitVec 8) (value : BitVec 32)
  /-- MAGNITUDE_FALLS_BACK (R9): the magnitude it fell to, as in `impulseEvent`. -/
  | magnitudeFallsBack (mast : Mast) (magnitude : Fin 257)
  /-- STATION_TIMER_TICK (R12). -/
  | stationTimerTick
deriving DecidableEq, Repr

end Sys2Proof
end

