-- ==== Sys2Proof/Decode.lean ====
section
/-! DEFINITION. The commands that words spell. The rows of spec/opcode_table.json give no bits (each row's "fields" is empty and none
has "fixed"), so no word spells a command. -/

namespace Sys2Proof

/-- The command the word `w` of `nbits` bits spells by the table's bits: the table gives no row any bits, so none. -/
def decodeTableWord (nbits w : Nat) : Option Instr :=
  match nbits, w with
  | _, _ => none

end Sys2Proof
end

