-- ==== Sys2Proof/Config.lean ====
section
/-! DEFINITION. What is fixed for the part: capacities, lengths and region offsets the spec states, and the free
values that stand for the choices the spec leaves open. -/

namespace Sys2Proof.Config

/-- FREE VALUE (R160: requests placed together stand in whichever order the Arbiter takes them).
The k-th such choice reads `placeAt k`; nothing constrains it. Log entry 1. -/
opaque placeAt : Nat → Nat

/-- FREE VALUE (R161: class-1 requests placed while the port is free, or because of the completion that freed it, may be taken
before the grant or after it). `true`: the grant is made before they are taken. Log entry 2. -/
opaque newRequestsWait : Nat → Bool

/-- FREE VALUE (R161: the class-2 request that a stream places because of the completion that freed the port may be taken before the
grant or after it). `true`: the grant is made before it is taken. Log entry 2. -/
opaque newSlotWaits : Nat → Bool

/-- The Router Queue holds at most 24 packets (R115). -/
def routerCapacity : Nat := 24

/-- A Stream FIFO holds at most 32 slots (R137). -/
def fifoCapacity : Nat := 32

/-- The apply window is 250,000 µs (R65). -/
def applyWindowLength : Nat := 250000

/-- One unit of the seek limit and of the status interval is 10 ms (R63, R173). -/
def tenMilliseconds : Nat := 10000

/-- One unit of the survey interval is 1 s (R64). -/
def oneSecond : Nat := 1000000

/-- One unit of the flush interval is 1 ms (R144). -/
def oneMillisecond : Nat := 1000

/-- The signature word of a Station Block (R170). -/
def signature : Nat := 0x4B440001

/-- The layout version of a Station Block (R170). -/
def layoutVersion : Nat := 1

/-- The Identity register: family code 0x4B44 and revision 0x0001 (spec/11, 11.3). -/
def identity : BitVec 32 := 0x4B440001#32

/-- Low and high edge of the band, in kHz (R1, R98). -/
def bandLow : Nat := 174000
def bandHigh : Nat := 862000

/-- Offsets of the regions of the Exchange Area (R167). -/
def stationBlockOffset : Nat := 0x0000
def stationStatusOffset : Nat := 0x0100
def laneSlotOffset : Nat := 0x0200
def laneStatusOffset : Nat := 0x0500
def streamRecordOffset : Nat := 0x0800
def filterTableOffset : Nat := 0x0C00

end Sys2Proof.Config
end

