-- ==== Sys2Proof/Machine/State.lean ====
section
/-! DEFINITION. The state of the KD-12, block by block, as plain data (spec/00_scope.md, Block overview). Every field's docstring
names the rule that gives it; INVENTORY.md lists them with their reset values. -/

namespace Sys2Proof.Machine

/-! ### Settings read from the Station Block -/

/-- The carrier class of a Mode Entry (R16). -/
inductive CarrierClass where
  | k2
  | k4
  | k8
deriving DecidableEq, Repr

/-- A usable Mode Entry with the values in force (R15 to R17). -/
structure ModeEntry where
  carrier : CarrierClass
  period : Nat
  tolerance : Nat
  matchCount : Nat
  missCount : Nat
deriving DecidableEq, Repr

/-- The Mode Table in force: `none` at an entry that is disabled, or enabled and rejected (R15, R16). -/
abbrev ModeTable := Vector (Option ModeEntry) 8

/-- The survey order (R74). -/
inductive SurveyOrder where
  | arrival
  | lane
deriving DecidableEq, Repr

/-- The settings in force since the last load that reached RUNNING (R170: all are replaced together). -/
structure StationSettings where
  /-- R15 -/
  modes : ModeTable
  /-- Rejected entries mask, bit n for entry n (R16). -/
  rejected : BitVec 8
  /-- Station adjustment flags: bit 0 TRIM_A, 1 TRIM_B, 2–9 MODE_0 to MODE_7, 10 ORDER (R2, R17, R74). -/
  adjusted : BitVec 16
  /-- Quality trims, −16..+15 (R2). -/
  trimA : Int
  trimB : Int
  /-- Impulse thresholds, 0..255 (R2). -/
  thresholdA : Nat
  thresholdB : Nat
  /-- R74 -/
  surveyOrder : SurveyOrder
  /-- 0..255, in 10 ms (R170, R173). -/
  statusInterval : Nat
deriving DecidableEq, Repr

/-! ### Mast Front Ends and Channel Taps -/

/-- One Mast Front End: whether an excursion above the threshold is in progress (R9), and the impulse count (R11). -/
structure MastFrontEnd where
  above : Bool
  count : Counter
deriving DecidableEq, Repr

/-- What a set tap is set to: centre frequency in kHz, bandwidth in MHz, mast (section 1.2). -/
structure TapSetting where
  centre : Nat
  bandwidth : Nat
  mast : Mast
deriving DecidableEq, Repr

/-- A Channel Tap: idle (`none`) or set, and the hit mark of the symbol or interval in progress (R3, R7). -/
structure Tap where
  setting : Option TapSetting
  hit : Bool
deriving DecidableEq, Repr

/-! ### Channel plans -/

/-- R52 -/
inductive MastPolicy where
  | mastA
  | mastB
  | autoA
  | autoB
deriving DecidableEq, Repr

/-- R19 -/
inductive ModePolicy where
  | auto
  | fixed (entry : EntryId)
deriving DecidableEq, Repr

/-- The notify flags of a plan (R72). -/
structure NotifyFlags where
  state : Bool
  switch : Bool
  seekTimeout : Bool
deriving DecidableEq, Repr

/-- A TUNE plan's fields as clamped (R51, R93, R101). -/
structure TunePlan where
  centre : Nat
  bandwidth : Nat
  mastPolicy : MastPolicy
  modePolicy : ModePolicy
  /-- lock threshold QL -/
  lockThreshold : Nat
  /-- unlock threshold QU -/
  unlockThreshold : Nat
  /-- lock count CL -/
  lockCount : Nat
  /-- fade count CF -/
  fadeCount : Nat
  /-- recover count CR -/
  recoverCount : Nat
  /-- hold limit H, in symbols -/
  holdLimit : Nat
  /-- smoothing exponent k -/
  smoothing : Nat
  /-- blank limit B -/
  blankLimit : Nat
  /-- seek limit, in 10 ms -/
  seekLimit : Nat
  /-- survey interval, in s -/
  surveyInterval : Nat
  /-- dwell D, in sampled reports -/
  dwell : Nat
  /-- margin, in quality units -/
  margin : Nat
  notify : NotifyFlags
deriving DecidableEq, Repr

/-- An accepted plan (R102): a TUNE with its clamped fields and adjusted mask, or a STOP with the fields a STOP uses (R93). -/
inductive AcceptedPlan where
  | tune (tag : Tag) (plan : TunePlan) (adjusted : BitVec 16)
  | stop (tag : Tag) (notify : NotifyFlags)
deriving DecidableEq, Repr

/-! ### Demodulator Lanes -/

/-- The five lane states (chapter 4). -/
inductive LanePhase where
  | off
  | seek
  | track
  | lock
  | fade
deriving DecidableEq, Repr

/-- The Mode Recognizer of a lane (R21). -/
structure Recognizer where
  candidate : Option EntryId
  matchesHeld : Nat
  missesHeld : Nat
  recognised : Option EntryId
  lossCount : Nat
deriving DecidableEq, Repr

/-- The Quality Tracker of a lane (R32). QI is not held: it is read from `seeded` and `qacc` (R43). -/
structure QualityTracker where
  seeded : Bool
  qacc : Nat
  /-- consecutive-hit count b -/
  hits : Nat
  lastRaw : Nat
deriving DecidableEq, Repr

/-- The eight lane counters (R71). -/
structure LaneCounters where
  delivered : Counter
  uncorrectable : Counter
  correctedBytes : Counter
  preLockDiscards : Counter
  routerDrops : Counter
  blankedSymbols : Counter
  switches : Counter
  seekCycles : Counter
deriving DecidableEq, Repr

/-- A timer: stopped, or running with its deadline on the Station Timer (R13). -/
abbrev Timer := Option Time

/-- One Demodulator Lane: its tap, Mode Recognizer, Quality Tracker and Lane Controller (R49). -/
structure Lane where
  phase : LanePhase
  applied : Option TunePlan
  appliedTag : Tag
  pendingPlan : Option AcceptedPlan
  activeMast : Mast
  lockIn : Nat
  fadeRun : Nat
  recoverRun : Nat
  hold : Nat
  seekTimer : Timer
  surveyTimer : Timer
  applyWindow : Timer
  firstAfterLock : Bool
  counters : LaneCounters
  lastChange : Time
  /-- waiting switch order: none, or the survey mean handed (R75) -/
  switchOrder : Option Nat
  tap : Tap
  recognizer : Recognizer
  tracker : QualityTracker
deriving DecidableEq, Repr

/-! ### Survey Unit -/

/-- The class of a survey request (R73). -/
inductive SurveyClass where
  | lock
  | fade
deriving DecidableEq, Repr

/-- R73 -/
structure SurveyRequest where
  lane : LaneId
  cls : SurveyClass
deriving DecidableEq, Repr

/-- The dwell record (R73). -/
structure Dwell where
  lane : LaneId
  cls : SurveyClass
  mast : Mast
  /-- D, fixed at the dwell start -/
  length : Nat
  settling : Nat
  sampled : Nat
  sum : Nat
  count : Nat
  /-- survey consecutive-hit count -/
  hits : Nat
deriving DecidableEq, Repr

/-- The Survey Unit (R73) with the survey tap (R7); the survey order in force stands in `StationSettings`. -/
structure SurveyUnit where
  queue : List SurveyRequest
  dwell : Option Dwell
  tap : Tap
  lastMean : Vector (Option Nat) 12
deriving DecidableEq, Repr

/-! ### Plan Fetcher -/

/-- The part mark of a Lane Slot (R93, spec/11). -/
inductive PartMark where
  | accepted
  | taken
  | refused
deriving DecidableEq, Repr

/-- The refusal reason of a Lane Slot (R93). -/
inductive RefusalReason where
  | none
  | freqRange
  | badBandwidth
  | badAction
  | badMode
  | overlap
deriving DecidableEq, Repr

/-- The five write-back fields of a Lane Slot (R93, R94). -/
structure WriteBackImage where
  mark : PartMark
  appliedTag : Tag
  reason : RefusalReason
  adjusted : BitVec 16
  timeAtTake : Time
deriving DecidableEq, Repr

/-- What the Plan Fetcher holds for one lane (R94). -/
structure SlotAnswer where
  lastAnswered : Option Tag
  image : WriteBackImage
  owed : Bool
deriving DecidableEq, Repr

/-- The Attention pending set (R172). -/
structure PendingSet where
  lanes : Vector Bool 12
  filter : Bool
  streams : Vector Bool 16
  statusNow : Bool
deriving DecidableEq, Repr

/-- The item of the pending set in hand (R172). -/
inductive AttentionItem where
  | lane (n : LaneId)
  | filter
  | stream (n : StreamId)
deriving DecidableEq, Repr

/-- Where the read of the Station Block stands for the load in progress (R169, R170). -/
inductive LoadRead where
  | none
  | wanted
  | issued
deriving DecidableEq, Repr

/-- The Plan Fetcher. -/
structure PlanFetcher where
  answers : Vector SlotAnswer 12
  pendingSet : PendingSet
  item : Option AttentionItem
  loadRead : LoadRead
  /-- superseded-plans count (R103) -/
  superseded : Counter
deriving DecidableEq, Repr

/-! ### Packet Router -/

/-- A packet in the Router Queue: its bytes and its attributes (R115). -/
structure Packet where
  bytes : Vector Byte 188
  lane : LaneId
  mast : Mast
  uncorrectable : Bool
  corrected : Fin 9
  firstAfterLock : Bool
  /-- arrival stamp: Station Timer modulo 2^25 (R14) -/
  stamp : BitVec 25
deriving DecidableEq, Repr

/-- A valid Filter Entry with the values in force (R120). -/
structure FilterEntry where
  lanes : BitVec 12
  base : Nat
  exponent : Nat
  target : StreamId
  dropErrored : Bool
  checkContinuity : Bool
deriving DecidableEq, Repr

/-- A Filter Table: `none` at an entry that is not valid (R120). -/
abbrev FilterTable := Vector (Option FilterEntry) 256

/-- The shadow Filter Table (R115, R130, R131): `next` is the read to be issued next or in flight, `restart` says that a FILTER
write waits for the completion of the read in flight. -/
inductive Shadow where
  | none
  | filling (entries : FilterTable) (next : Fin 8) (restart : Bool)
  | ready (entries : FilterTable)
deriving DecidableEq, Repr

/-- The Packet Router (R115). -/
structure Router where
  queue : List Packet
  inHand : Option Packet
  active : FilterTable
  version : Counter
  shadow : Shadow
  baselines : Vector (Option (BitVec 4)) 256
  drops : Counter
  unmatched : Counter
  breaks : Counter
  repeats : Counter
deriving DecidableEq, Repr

/-! ### Stream Writers -/

/-- The five stream states (chapter 8). -/
inductive StreamPhase where
  | closed
  | opened
  | starved
  | closing
  | halted
deriving DecidableEq, Repr

/-- R136 -/
inductive FaultPolicy where
  | halt
  | skip
deriving DecidableEq, Repr

/-- A packet slot: its slot tag and its packet (R142). -/
structure Slot where
  lane : LaneId
  mast : Mast
  uncorrectable : Bool
  continuityBreak : Bool
  stamp : BitVec 25
  bytes : Vector Byte 188
deriving DecidableEq, Repr

/-- A Buffer Record as the Writer holds it (R140). The stamp is `none` until the first slot is written. -/
structure HeldBuffer where
  address : Addr
  dataArea : Addr
  capacity : Nat
  nextRecord : Addr
  filled : Nat
  stamp : Option Time
deriving DecidableEq, Repr

/-- R145 -/
inductive CloseReason where
  | capacity
  | flush
  | close
  | fault
deriving DecidableEq, Repr

/-- A close in progress, of the current buffer or of a bad record (R146). -/
structure BufferClose where
  address : Addr
  nextRecord : Addr
  filled : Nat
  stamp : Option Time
  reason : CloseReason
deriving DecidableEq, Repr

/-- The chain position (R137). -/
inductive ChainPosition where
  | none
  | holding
  | closingBuffer
  | readingAt (address : Addr)
  | betweenBuffers
  | waitingOn (address : Addr)
  | waitingAtEnd
deriving DecidableEq, Repr

/-- The Buffer Record transfer a Stream Writer has to make, waiting to be issued or in flight (R137: at most one). -/
inductive RecordJob where
  | none
  | read (address : Addr)
  | filling (buffer : HeldBuffer)
  | closingFields (close : BufferClose)
  | mark (close : BufferClose)
  | emptyMark (address : Addr)
deriving DecidableEq, Repr

/-- The seven stream counters (R154). -/
structure StreamCounters where
  buffersClosed : Counter
  slotsWritten : Counter
  droppedStarved : Counter
  droppedFifo : Counter
  droppedFault : Counter
  droppedClosed : Counter
  withheld : Counter
deriving DecidableEq, Repr

/-- One Stream Writer (R137). -/
structure StreamWriter where
  phase : StreamPhase
  priority : Fin 8
  faultPolicy : FaultPolicy
  /-- flush interval, 0..255 ms -/
  flushInterval : Nat
  notifyOnClose : Bool
  position : ChainPosition
  current : Option HeldBuffer
  fifo : List Slot
  inFlight : Option Slot
  flushTimer : Timer
  /-- a flush expiry that waits for the slot write in flight (R145) -/
  flushWaits : Bool
  sequence : Counter
  counters : StreamCounters
  /-- the counters as the write-back issued last carries them (R154, R156) -/
  reported : StreamCounters
  currentRecord : Addr
  /-- write-back owed (R154) -/
  owed : Bool
  job : RecordJob
  /-- an OPEN fetch that came while a check was in flight, with its head address (R148) -/
  recheck : Option Addr
deriving DecidableEq, Repr

/-! ### Transfer Arbiter -/

/-- The thirteen Status Records (R174). -/
inductive StatusRecord where
  | station
  | lane (n : LaneId)
deriving DecidableEq, Repr

/-- The thirty places a class-1 request can come from (R159, R160). -/
inductive Requester where
  | fetcher
  | stream (n : StreamId)
  | status (r : StatusRecord)
deriving DecidableEq, Repr

/-- The transfers of the part (chapter 9). A Lane Slot write-back keeps the part mark it carries (R112). -/
inductive TransferKind where
  | stationBlockRead
  | laneSlotRead (n : LaneId)
  | laneSlotWriteBack (n : LaneId) (mark : PartMark)
  | filterBlockRead (block : Fin 8)
  | streamRecordRead (n : StreamId)
  | bufferRecordRead (n : StreamId)
  | fillingWrite (n : StreamId)
  | closingFieldsWrite (n : StreamId)
  | markWrite (n : StreamId)
  | emptyMarkWrite (n : StreamId)
  | streamWriteBack (n : StreamId)
  | statusRecordWrite (r : StatusRecord)
  | slotWrite (n : StreamId)
deriving DecidableEq, Repr

/-- A granted transfer (R158, R159): address, size in bytes and, for a write, its bytes. `abandoned` says that a soft reset was
taken while it was on the link, so that its completion is handed to no requester (R166). -/
structure Transfer where
  kind : TransferKind
  address : Addr
  size : Nat
  data : List Byte
  abandoned : Bool
deriving DecidableEq, Repr

/-- The Transfer Arbiter: the Record Queue (R160), the rotation point (R163) and the memory port (R158; `none` is free). The last two
fields say which requests the next grant may pass by, because it may be taken before them (R161, log entry 2). -/
structure Arbiter where
  queue : List Requester
  rotation : StreamId
  port : Option Transfer
  /-- how many requests at the tail of the Record Queue were placed since the port became free -/
  fresh : Nat
  /-- the stream whose completion freed the port and let it make its class-2 request, which still waits -/
  handedTo : Option StreamId
deriving DecidableEq, Repr

/-! ### Link Port and Status Writer -/

/-- The device states (R169). -/
inductive DeviceState where
  | idle
  | loading
  | running
  | stopping
  | faulted
deriving DecidableEq, Repr

/-- The load fault reason (R168). -/
inductive LoadFault where
  | none
  | badSignature
  | badVersion
  | linkError
deriving DecidableEq, Repr

/-- The kind of the last fault (R165). -/
inductive FaultKind where
  | none
  | readError
  | writeError
deriving DecidableEq, Repr

/-- The requester of the last fault (R165). -/
inductive FaultRequester where
  | planFetcher
  | statusWriter
  | stream (n : StreamId)
deriving DecidableEq, Repr

/-- The last fault (R165). -/
structure LastFault where
  kind : FaultKind
  requester : FaultRequester
  address : BitVec 32
  time : Time
deriving DecidableEq, Repr

/-- The Link Port: device state, register contents, link-error count and last fault (R165, R168). -/
structure LinkPort where
  device : DeviceState
  run : Bool
  loadFault : LoadFault
  /-- Exchange Base (R167) -/
  base : Addr
  /-- Notice: bit 0 PLAN, 1 LANE, 2 BUFFER, 3 STREAM, 4 FILTER, 5 FAULT, 6 STOPPED (R176) -/
  notice : BitVec 7
  /-- Notice Enable (R177) -/
  enable : BitVec 7
  linkErrors : Counter
  lastFault : LastFault
deriving DecidableEq, Repr

/-- The Status Writer (R174): owed flags, update counts, the status interval timer (R173), and whether the thirteen final writes of
STOPPING have begun (R171). -/
structure StatusWriter where
  stationOwed : Bool
  lanesOwed : Vector Bool 12
  stationUpdates : Counter
  laneUpdates : Vector Counter 12
  intervalTimer : Timer
  finalGroup : Bool
deriving DecidableEq, Repr

/-! ### What the part has sent -/

/-- A write the link has accepted: where it starts and its bytes. -/
structure LinkWrite where
  address : Addr
  data : List Byte
deriving DecidableEq, Repr

/-- The model's own record of what left the part: the accepted writes, oldest first, and how many interrupt messages were sent
(R158, R177). No rule reads it. -/
structure Output where
  writes : List LinkWrite
  messages : Nat
deriving DecidableEq, Repr

/-! ### The part -/

/-- The whole part, with the queue of commands waiting for it, first in first out. -/
structure State where
  /-- Station Timer (R12) -/
  time : Time
  station : StationSettings
  mastA : MastFrontEnd
  mastB : MastFrontEnd
  lanes : Vector Lane 12
  survey : SurveyUnit
  fetcher : PlanFetcher
  router : Router
  streams : Vector StreamWriter 16
  arbiter : Arbiter
  link : LinkPort
  status : StatusWriter
  output : Output
  /-- how many free values of `Config` have been read (the model's own) -/
  picks : Nat
  /-- commands waiting (the model's own) -/
  pending : List Instr
deriving DecidableEq, Repr

/-- Why a command could stop. No command of the KD-12 stops: a link error, a load fault and a refused plan are effects the rules
describe, and each is a next state. So there is no fault. -/
inductive Fault where
deriving DecidableEq, Repr

/-- Why a command has no meaning in the model. -/
inductive Refusal where
  /-- Raised by an arm of `exec` whose command has no meaning yet (none is left); safe, since the model then says nothing. -/
  | notModelled (mnemonic : String)
deriving DecidableEq, Repr

/-! ### Reset values -/

/-- R2, R18, R74, R178 (the status interval: log entry 4). -/
def StationSettings.reset : StationSettings where
  modes := Vector.replicate 8 none
  rejected := 0
  adjusted := 0
  trimA := 0
  trimB := 0
  thresholdA := 0
  thresholdB := 0
  surveyOrder := .arrival
  statusInterval := 0

/-- R11; no excursion in progress (R9). -/
def MastFrontEnd.reset : MastFrontEnd where
  above := false
  count := 0

/-- An idle tap with no hit mark (R3, R7). -/
def Tap.idle : Tap where
  setting := none
  hit := false

/-- A cleared recognizer (R21, R30). -/
def Recognizer.cleared : Recognizer where
  candidate := none
  matchesHeld := 0
  missesHeld := 0
  recognised := none
  lossCount := 0

/-- A cleared tracker: the OFF values of R32 (R45). -/
def QualityTracker.cleared : QualityTracker where
  seeded := false
  qacc := 0
  hits := 0
  lastRaw := 0

/-- R71 -/
def LaneCounters.zero : LaneCounters where
  delivered := 0
  uncorrectable := 0
  correctedBytes := 0
  preLockDiscards := 0
  routerDrops := 0
  blankedSymbols := 0
  switches := 0
  seekCycles := 0

/-- R49, R75 -/
def Lane.reset : Lane where
  phase := .off
  applied := none
  appliedTag := 0
  pendingPlan := none
  activeMast := .a
  lockIn := 0
  fadeRun := 0
  recoverRun := 0
  hold := 0
  seekTimer := none
  surveyTimer := none
  applyWindow := none
  firstAfterLock := false
  counters := .zero
  lastChange := 0
  switchOrder := none
  tap := .idle
  recognizer := .cleared
  tracker := .cleared

/-- R73 -/
def SurveyUnit.reset : SurveyUnit where
  queue := []
  dwell := none
  tap := .idle
  lastMean := Vector.replicate 12 none

/-- R94 -/
def SlotAnswer.reset : SlotAnswer where
  lastAnswered := none
  image := { mark := .accepted, appliedTag := 0, reason := .none, adjusted := 0, timeAtTake := 0 }
  owed := false

/-- R172 -/
def PendingSet.empty : PendingSet where
  lanes := Vector.replicate 12 false
  filter := false
  streams := Vector.replicate 16 false
  statusNow := false

/-- R94, R103, R178 -/
def PlanFetcher.reset : PlanFetcher where
  answers := Vector.replicate 12 .reset
  pendingSet := .empty
  item := none
  loadRead := .none
  superseded := 0

/-- R115 -/
def Router.reset : Router where
  queue := []
  inHand := none
  active := Vector.replicate 256 none
  version := 0
  shadow := .none
  baselines := Vector.replicate 256 none
  drops := 0
  unmatched := 0
  breaks := 0
  repeats := 0

/-- R154 -/
def StreamCounters.zero : StreamCounters where
  buffersClosed := 0
  slotsWritten := 0
  droppedStarved := 0
  droppedFifo := 0
  droppedFault := 0
  droppedClosed := 0
  withheld := 0

/-- R137, R157 -/
def StreamWriter.reset : StreamWriter where
  phase := .closed
  priority := 7
  faultPolicy := .halt
  flushInterval := 0
  notifyOnClose := false
  position := .none
  current := none
  fifo := []
  inFlight := none
  flushTimer := none
  flushWaits := false
  sequence := 0
  counters := .zero
  reported := .zero
  currentRecord := 0
  owed := false
  job := .none
  recheck := none

/-- R158, R160, R163 -/
def Arbiter.reset : Arbiter where
  queue := []
  rotation := 15
  port := none
  fresh := 0
  handedTo := none

/-- R165 -/
def LastFault.reset : LastFault where
  kind := .none
  requester := .planFetcher
  address := 0
  time := 0

/-- R168, R178 -/
def LinkPort.reset : LinkPort where
  device := .idle
  run := false
  loadFault := .none
  base := 0
  notice := 0
  enable := 0
  linkErrors := 0
  lastFault := .reset

/-- R174, R178 -/
def StatusWriter.reset : StatusWriter where
  stationOwed := false
  lanesOwed := Vector.replicate 12 false
  stationUpdates := 0
  laneUpdates := Vector.replicate 12 0
  intervalTimer := none
  finalGroup := false

/-- The part right after power-on reset (R178), nothing sent and no command waiting. -/
def State.reset : State where
  time := 0
  station := .reset
  mastA := .reset
  mastB := .reset
  lanes := Vector.replicate 12 .reset
  survey := .reset
  fetcher := .reset
  router := .reset
  streams := Vector.replicate 16 .reset
  arbiter := .reset
  link := .reset
  status := .reset
  output := { writes := [], messages := 0 }
  picks := 0
  pending := []

end Sys2Proof.Machine
end

