-- ==== Sys2Proof/Machine/Ops.lean ====
section
/-! DEFINITION. The named operations over the state that more than one command uses: tables, saturating counters, timers, the
read and write of one lane or stream, memory addresses, and the notices (R176, R177) and link errors (R165). -/

namespace Sys2Proof

/-! ### Tables of fixed size -/

/-- Each entry of a table through `f`. -/
def Vec.map {α β : Type} {n : Nat} (f : α → β) (v : Vector α n) : Vector β n :=
  ⟨⟨v.toList.map f⟩, by simp⟩

/-- Each entry of a table through `f`, which is also given the entry's index. -/
def Vec.mapIdx {α β : Type} {n : Nat} (f : Nat → α → β) (v : Vector α n) : Vector β n :=
  ⟨⟨v.toList.zipIdx.map fun p => f p.2 p.1⟩, by simp⟩

/-- Two tables of one size, entry by entry. -/
def Vec.zipWith {α β γ : Type} {n : Nat} (f : α → β → γ) (v : Vector α n) (w : Vector β n) : Vector γ n :=
  ⟨⟨List.zipWith f v.toList w.toList⟩, by simp⟩

/-- Whether some entry of a table satisfies `p`. -/
def Vec.any {α : Type} {n : Nat} (p : α → Bool) (v : Vector α n) : Bool :=
  v.toList.any p

namespace Machine

/-! ### Counters (00_scope, Counters) -/

/-- A 32-bit count increased by `k`, staying at its largest value. -/
def satAdd (c : Counter) (k : Nat) : Counter :=
  if c.toNat + k < 2 ^ 32 then BitVec.ofNat 32 (c.toNat + k) else BitVec.allOnes 32

/-- A 32-bit saturating count increased by 1. -/
def satInc (c : Counter) : Counter :=
  satAdd c 1

/-! ### Masts -/

/-- The mast opposite `m`. -/
def opposite : Mast → Mast
  | .a => .b
  | .b => .a

/-- The Mast Front End of `m`. -/
def State.front (s : State) : Mast → MastFrontEnd
  | .a => s.mastA
  | .b => s.mastB

/-- Replace the Mast Front End of `m`. -/
def State.setFront (s : State) (m : Mast) (f : MastFrontEnd) : State :=
  match m with
  | .a => { s with mastA := f }
  | .b => { s with mastB := f }

/-- The quality trim in force for mast `m` (R2, R35). -/
def StationSettings.trim (t : StationSettings) : Mast → Int
  | .a => t.trimA
  | .b => t.trimB

/-- The impulse threshold in force for mast `m` (R2, R9). -/
def StationSettings.threshold (t : StationSettings) : Mast → Nat
  | .a => t.thresholdA
  | .b => t.thresholdB

/-! ### One lane, one stream, one lane's answer -/

/-- Lane n. -/
def State.lane (s : State) (n : LaneId) : Lane :=
  s.lanes[n]

/-- Replace lane n. -/
def State.setLane (s : State) (n : LaneId) (l : Lane) : State :=
  { s with lanes := s.lanes.set n l }

/-- Change lane n by `f`. -/
def State.modLane (s : State) (n : LaneId) (f : Lane → Lane) : State :=
  s.setLane n (f (s.lane n))

/-- Stream Writer n. -/
def State.stream (s : State) (n : StreamId) : StreamWriter :=
  s.streams[n]

/-- Replace Stream Writer n. -/
def State.setStream (s : State) (n : StreamId) (w : StreamWriter) : State :=
  { s with streams := s.streams.set n w }

/-- Change Stream Writer n by `f`. -/
def State.modStream (s : State) (n : StreamId) (f : StreamWriter → StreamWriter) : State :=
  s.setStream n (f (s.stream n))

/-- What the Plan Fetcher holds for lane n (R94). -/
def State.answer (s : State) (n : LaneId) : SlotAnswer :=
  s.fetcher.answers[n]

/-- Replace what the Plan Fetcher holds for lane n. -/
def State.setAnswer (s : State) (n : LaneId) (a : SlotAnswer) : State :=
  { s with fetcher := { s.fetcher with answers := s.fetcher.answers.set n a } }

/-! ### Timers (R13) -/

/-- The deadline of a timer started at Station Timer value `now` with length `d` µs: (T + d) mod 2^48. -/
def deadline (now : Time) (d : Nat) : Time :=
  now + BitVec.ofNat 48 d

/-- A timer expires when the Station Timer reaches its deadline. -/
def expiresAt (t : Timer) (now : Time) : Bool :=
  t == some now

/-! ### Policies -/

/-- AUTO_A and AUTO_B are the AUTO policies (R52). -/
def MastPolicy.isAuto : MastPolicy → Bool
  | .mastA => false
  | .mastB => false
  | .autoA => true
  | .autoB => true

/-- The mast a lane starts on under a policy (R52). -/
def MastPolicy.start : MastPolicy → Mast
  | .mastA => .a
  | .mastB => .b
  | .autoA => .a
  | .autoB => .b

/-- A lane that delivers: LOCK or FADE (R50). -/
def LanePhase.delivers : LanePhase → Bool
  | .off => false
  | .seek => false
  | .track => false
  | .lock => true
  | .fade => true

/-- The lanes' recognised entry governs TRACK, LOCK and FADE (R50). -/
def LanePhase.recognised : LanePhase → Bool
  | .off => false
  | .seek => false
  | .track => true
  | .lock => true
  | .fade => true

/-! ### Addresses (R167, spec/11) -/

/-- The host address at an offset of the Exchange Area. -/
def State.exchangeAddress (s : State) (offset : Nat) : Addr :=
  s.link.base + BitVec.ofNat 64 offset

/-! ### Notices and the interrupt message (R176, R177) -/

/-- The seven notice causes (R176). -/
inductive Cause where
  | plan
  | lane
  | buffer
  | stream
  | filter
  | fault
  | stopped
deriving DecidableEq, Repr

/-- The position of a cause in the Notice register (spec/11, 11.3). -/
def Cause.bit : Cause → BitVec 7
  | .plan => 0b0000001#7
  | .lane => 0b0000010#7
  | .buffer => 0b0000100#7
  | .stream => 0b0001000#7
  | .filter => 0b0010000#7
  | .fault => 0b0100000#7
  | .stopped => 0b1000000#7

/-- Put `notice` and `enable` into their registers. One interrupt message is sent when the set of causes both raised and
enabled changes from empty to not empty (R177). -/
def State.setNotices (s : State) (notice enable : BitVec 7) : State :=
  let sends := s.link.notice &&& s.link.enable == 0 && notice &&& enable != 0
  { s with
    link := { s.link with notice := notice, enable := enable }
    output := { s.output with messages := if sends then s.output.messages + 1 else s.output.messages } }

/-- Raise a cause: its bit is set, or stays set (R176). -/
def State.raise (s : State) (c : Cause) : State :=
  s.setNotices (s.link.notice ||| c.bit) s.link.enable

/-- Raise a cause when a condition holds. -/
def State.raiseIf (s : State) (b : Bool) (c : Cause) : State :=
  if b then s.raise c else s

/-! ### Link errors and accepted writes (R158, R165) -/

/-- What the Link Port does at a link error: the count, the last fault, the FAULT notice (R165). -/
def State.linkError (s : State) (kind : FaultKind) (who : FaultRequester) (address : Addr) : State :=
  let fault : LastFault := { kind := kind, requester := who, address := address.setWidth 32, time := s.time }
  State.raise { s with link := { s.link with linkErrors := satInc s.link.linkErrors, lastFault := fault } } .fault

/-- The stream that a completion may let place a new class-2 request: by its slot write the next slot may be written, by its FILLING
write it holds a buffer (R144, R148, R162). -/
def TransferKind.slotStream : TransferKind → Option StreamId
  | .stationBlockRead => none
  | .laneSlotRead _ => none
  | .laneSlotWriteBack _ _ => none
  | .filterBlockRead _ => none
  | .streamRecordRead _ => none
  | .bufferRecordRead _ => none
  | .fillingWrite n => some n
  | .closingFieldsWrite _ => none
  | .markWrite _ => none
  | .emptyMarkWrite _ => none
  | .streamWriteBack _ => none
  | .statusRecordWrite _ => none
  | .slotWrite n => some n

/-- The port becomes free (R158). The next grant may be taken before the class-2 request that this completion lets its stream place
(R161), if it places one (`State.racingStream`); an abandoned transfer is handed to nobody (R166). -/
def State.freePort (s : State) : State :=
  { s with arbiter := { s.arbiter with
      port := none
      handedTo := match s.arbiter.port with
        | none => s.arbiter.handedTo
        | some t => if t.abandoned then s.arbiter.handedTo else t.kind.slotStream } }

/-- The link has accepted all the bytes of a write. -/
def State.accept (s : State) (t : Transfer) : State :=
  { s with output := { s.output with writes := s.output.writes ++ [{ address := t.address, data := t.data }] } }

/-! ### Status Records that become owed (R174) -/

/-- The Status Writer is asked to write lane n's Lane Status Record. -/
def State.oweLane (s : State) (n : LaneId) : State :=
  { s with status := { s.status with lanesOwed := s.status.lanesOwed.set n true } }

/-- The Status Writer is asked to write the Station Status Record. -/
def State.oweStation (s : State) : State :=
  { s with status := { s.status with stationOwed := true } }

/-- All thirteen Status Records become owed. -/
def State.oweAll (s : State) : State :=
  { s with status := { s.status with stationOwed := true, lanesOwed := Vector.replicate 12 true } }

end Machine
end Sys2Proof
end

