-- ==== Sys2Proof/Machine/Flags.lean ====
section
/-! DEFINITION. The words the part composes out of single flags: the adjusted mask of a plan (R101), the station adjustment flags
(R2, R17, R74) and the rejected entries mask (R16). -/

namespace Sys2Proof.Machine

/-- A word with bit `i` set when `b` holds. -/
def flag (w : Nat) (i : Nat) (b : Bool) : BitVec w :=
  if b then BitVec.ofNat w (2 ^ i) else 0

/-- A word whose bits are the listed flags, bit 0 first. -/
def flags (w : Nat) : List Bool → Nat → BitVec w
  | [], _ => 0
  | b :: bs, i => flag w i b ||| flags w bs (i + 1)

end Sys2Proof.Machine
end

