-- ==== Sys2Proof/Machine/Operands.lean ====
section
/-! DEFINITION. Reading the records the host writes: byte offsets (spec/11), codes (R179, R180), conversions and clamps (R2, R16,
R17, R74, R93, R101, R120, R136, R140), and the transport packet header (R119). -/

namespace Sys2Proof.Machine

/-! ### Little-endian fields -/

/-- The value of `k` bytes at the head of a list, little-endian. -/
def leValue : Nat → List Byte → Nat
  | 0, _ => 0
  | _ + 1, [] => 0
  | k + 1, b :: bs => b.toNat + 256 * leValue k bs

/-- The `size`-byte field at `offset` of a record. -/
def field {n : Nat} (r : Vector Byte n) (offset size : Nat) : Nat :=
  leValue size (r.toList.drop offset)

/-- The byte at `offset` of a record. -/
def byteAt {n : Nat} (r : Vector Byte n) (offset : Nat) : Byte :=
  BitVec.ofNat 8 (field r offset 1)

/-- A value taken into lo..hi as the nearest end of the range. -/
def clamp (lo hi x : Nat) : Nat :=
  if x < lo then lo else if hi < x then hi else x

/-! ### Station Block (R170) -/

/-- The code of a carrier class (spec/11, R180). -/
def carrierOf : Nat → Option CarrierClass
  | 1 => some .k2
  | 2 => some .k4
  | 3 => some .k8
  | _ => none

/-- The core length of a carrier class, in tap samples (R16). -/
def CarrierClass.core : CarrierClass → Nat
  | .k2 => 2048
  | .k4 => 4096
  | .k8 => 8192

/-- A Mode Entry as the host wrote it. -/
structure RawModeEntry where
  enabled : Bool
  carrierCode : Nat
  period : Nat
  tolerance : Nat
  matchCount : Nat
  missCount : Nat
deriving DecidableEq, Repr

/-- Mode Entry n of a Station Block (spec/11). -/
def rawModeEntry (block : Vector Byte 256) (n : EntryId) : RawModeEntry :=
  let at' := 0x10 + 8 * n.val
  { enabled := (byteAt block at').getLsbD 0
    carrierCode := field block (at' + 1) 1
    period := field block (at' + 2) 2
    tolerance := field block (at' + 4) 1
    matchCount := field block (at' + 5) 1
    missCount := field block (at' + 6) 1 }

/-- A Pexp is valid for a class when core < Pexp ≤ core + core/4 (R16). -/
def periodValid (c : CarrierClass) (period : Nat) : Bool :=
  c.core < period && period ≤ c.core + c.core / 4

/-- The entry in force: validated on class and Pexp (R16), its other three fields clamped (R17). -/
def RawModeEntry.inForce (r : RawModeEntry) : Option ModeEntry :=
  match carrierOf r.carrierCode with
  | none => none
  | some c =>
    if r.enabled && periodValid c r.period then
      some { carrier := c, period := r.period, tolerance := clamp 1 4 r.tolerance,
             matchCount := clamp 2 32 r.matchCount, missCount := clamp 1 8 r.missCount }
    else none

/-- An enabled entry that fails the check (R16). -/
def RawModeEntry.isRejected (r : RawModeEntry) : Bool :=
  r.enabled && r.inForce.isNone

/-- The entry is enabled and valid, and one of its three clamped fields was out of range (R17). -/
def RawModeEntry.isAdjusted (r : RawModeEntry) : Bool :=
  match r.inForce with
  | none => false
  | some e => e.tolerance != r.tolerance || e.matchCount != r.matchCount || e.missCount != r.missCount

/-- A trim byte as a signed value, −128..127 (R2). -/
def rawTrim (block : Vector Byte 256) (m : Mast) : Int :=
  (byteAt block (match m with | .a => 0x08 | .b => 0x09)).toInt

/-- A trim clamped into −16..+15 (R2). -/
def clampTrim (t : Int) : Int :=
  if t < -16 then -16 else if 15 < t then 15 else t

/-- The survey order code: 0 ARRIVAL, 1 LANE, any other taken as ARRIVAL (R74, R180). -/
def surveyOrderOf (code : Nat) : SurveyOrder :=
  if code = 1 then .lane else .arrival

/-- The station adjustment flags of a Station Block (R2, R17, R74; bit places of spec/11). -/
def stationFlags (block : Vector Byte 256) : BitVec 16 :=
  flags 16
    ([clampTrim (rawTrim block .a) != rawTrim block .a, clampTrim (rawTrim block .b) != rawTrim block .b]
      ++ allEntries.map (fun n => (rawModeEntry block n).isAdjusted)
      ++ [decide (1 < field block 0x0C 1)]) 0

/-- Every setting a Station Block that passes the checks puts into force (R170). -/
def settingsOf (block : Vector Byte 256) : StationSettings where
  modes := ⟨⟨allEntries.map fun n => (rawModeEntry block n).inForce⟩, by simp [allEntries]⟩
  rejected := flags 8 (allEntries.map fun n => (rawModeEntry block n).isRejected) 0
  adjusted := stationFlags block
  trimA := clampTrim (rawTrim block .a)
  trimB := clampTrim (rawTrim block .b)
  thresholdA := field block 0x0A 1
  thresholdB := field block 0x0B 1
  surveyOrder := surveyOrderOf (field block 0x0C 1)
  statusInterval := field block 0x0D 1

/-- The checks of R170 on a Station Block's data, in order. -/
def blockFault (block : Vector Byte 256) : LoadFault :=
  if field block 0x00 4 ≠ Config.signature then .badSignature
  else if field block 0x04 2 ≠ Config.layoutVersion then .badVersion
  else .none

/-! ### Lane Slot (R93) -/

/-- The action of a plan. -/
inductive PlanAction where
  | tune
  | stop
deriving DecidableEq, Repr

/-- The host half of a Lane Slot, codes as the host wrote them (R93, spec/11). -/
structure SlotHostHalf where
  /-- any mark other than STAGED is taken as EMPTY -/
  staged : Bool
  action : Option PlanAction
  tag : Tag
  centre : Nat
  bandwidth : Nat
  mastCode : Nat
  modeCode : Nat
  lockThreshold : Nat
  unlockThreshold : Nat
  lockCount : Nat
  fadeCount : Nat
  recoverCount : Nat
  holdLimit : Nat
  smoothing : Nat
  blankLimit : Nat
  seekLimit : Nat
  surveyInterval : Nat
  dwell : Nat
  margin : Nat
  notify : NotifyFlags
deriving DecidableEq, Repr

/-- The action code (R180). -/
def actionOf : Nat → Option PlanAction
  | 1 => some .tune
  | 2 => some .stop
  | _ => none

/-- The notify flags: bit 0 state, bit 1 switch, bit 2 seek-timeout; bits 7–3 ignored (R179). -/
def notifyOf (b : Byte) : NotifyFlags where
  state := b.getLsbD 0
  switch := b.getLsbD 1
  seekTimeout := b.getLsbD 2

/-- The host half of a Lane Slot read (byte layout of spec/11). The write-back bytes are ignored (R93). -/
def hostHalf (slot : Vector Byte 64) : SlotHostHalf where
  staged := field slot 0x00 1 == 1
  action := actionOf (field slot 0x01 1)
  tag := BitVec.ofNat 16 (field slot 0x02 2)
  centre := field slot 0x04 4
  bandwidth := field slot 0x08 1
  mastCode := field slot 0x09 1
  modeCode := field slot 0x0A 1
  lockThreshold := field slot 0x0B 1
  unlockThreshold := field slot 0x0C 1
  lockCount := field slot 0x0D 1
  fadeCount := field slot 0x0E 1
  recoverCount := field slot 0x0F 1
  holdLimit := field slot 0x10 2
  smoothing := field slot 0x12 1
  blankLimit := field slot 0x13 1
  seekLimit := field slot 0x14 1
  surveyInterval := field slot 0x15 1
  dwell := field slot 0x16 1
  margin := field slot 0x17 1
  notify := notifyOf (byteAt slot 0x18)

/-- The mast policy code; any code above 3 is taken as AUTO_A (R101, R180). -/
def mastPolicyOf : Nat → MastPolicy
  | 0 => .mastA
  | 1 => .mastB
  | 2 => .autoA
  | 3 => .autoB
  | _ => .autoA

/-- The mode policy code: 0x00 AUTO, 0x80 + n FIXED n (R93, R180). -/
def modePolicyOf (code : Nat) : Option ModePolicy :=
  if code = 0 then some .auto
  else if h : code - 0x80 < 8 ∧ 0x80 ≤ code then some (.fixed ⟨code - 0x80, h.1⟩)
  else none

/-- QL in force (R51). -/
def clampLock (raw : Nat) : Nat :=
  clamp 1 127 raw

/-- QU in force, against the clamped QL (R51). -/
def clampUnlock (lock raw : Nat) : Nat :=
  if lock ≤ raw then lock - 1 else raw

/-- The TUNE plan in force for a host half that has passed the checks, under its decoded mode policy (R101). -/
def SlotHostHalf.clamped (h : SlotHostHalf) (mode : ModePolicy) : TunePlan where
  centre := h.centre
  bandwidth := h.bandwidth
  mastPolicy := mastPolicyOf h.mastCode
  modePolicy := mode
  lockThreshold := clampLock h.lockThreshold
  unlockThreshold := clampUnlock (clampLock h.lockThreshold) h.unlockThreshold
  lockCount := clamp 1 63 h.lockCount
  fadeCount := clamp 1 63 h.fadeCount
  recoverCount := clamp 1 63 h.recoverCount
  holdLimit := clamp 16 65535 h.holdLimit
  smoothing := clamp 1 6 h.smoothing
  blankLimit := clamp 0 15 h.blankLimit
  seekLimit := clamp 1 255 h.seekLimit
  surveyInterval := clamp 1 255 h.surveyInterval
  dwell := clamp 8 255 h.dwell
  margin := clamp 1 31 h.margin
  notify := h.notify

/-- The adjusted mask: each field whose value in force differs from the value written (R101; bit places of spec/11). -/
def SlotHostHalf.adjustedMask (h : SlotHostHalf) (p : TunePlan) : BitVec 16 :=
  flags 16
    [decide (3 < h.mastCode), p.lockThreshold != h.lockThreshold, p.unlockThreshold != h.unlockThreshold,
     p.lockCount != h.lockCount, p.fadeCount != h.fadeCount, p.recoverCount != h.recoverCount,
     p.holdLimit != h.holdLimit, p.smoothing != h.smoothing, p.blankLimit != h.blankLimit,
     p.seekLimit != h.seekLimit, p.surveyInterval != h.surveyInterval, p.dwell != h.dwell, p.margin != h.margin] 0

/-! ### Filter Entry (R120) -/

/-- The entry at `offset` of a Filter Table block, converted: the exponent is clamped first, then the base aligned with it. -/
def filterEntryAt (block : Vector Byte 256) (offset : Nat) : Option FilterEntry :=
  let options := byteAt block offset
  let e := clamp 0 13 (field block (offset + 6) 1)
  let base := field block (offset + 4) 2 % 8192
  if options.getLsbD 0 then
    some { lanes := BitVec.ofNat 12 (field block (offset + 2) 2)
           base := base / 2 ^ e * 2 ^ e
           exponent := e
           target := Fin.ofNat 16 (field block (offset + 1) 1)
           dropErrored := options.getLsbD 1
           checkContinuity := options.getLsbD 2 }
  else none

/-! ### Stream Record (R136) -/

/-- A Stream Record's host half with the values in force: the fetch handed to a Stream Writer (R138). -/
structure StreamFetch where
  isOpen : Bool
  priority : Fin 8
  faultPolicy : FaultPolicy
  flushInterval : Nat
  notifyOnClose : Bool
  head : Addr
deriving DecidableEq, Repr

/-- An address with its low `k` bits taken as 0. -/
def alignedAddr (k : Nat) (value : Nat) : Addr :=
  BitVec.ofNat 64 (value / 2 ^ k * 2 ^ k)

/-- The host half of a Stream Record, converted (R136; byte layout of spec/11). -/
def streamFetch (r : Vector Byte 64) : StreamFetch where
  isOpen := field r 0x00 1 == 1
  priority := Fin.ofNat 8 (clamp 0 7 (field r 0x01 1))
  faultPolicy := if field r 0x02 1 = 1 then .skip else .halt
  flushInterval := field r 0x03 1
  notifyOnClose := (byteAt r 0x04).getLsbD 0
  head := alignedAddr 4 (field r 0x08 8)

/-! ### Buffer Record (R140) -/

/-- What the Stream Writer takes from a Buffer Record (R140). -/
structure BufferRecord where
  isEmpty : Bool
  dataArea : Addr
  capacity : Nat
  nextRecord : Addr
deriving DecidableEq, Repr

/-- A Buffer Record read, converted (R140; byte layout of spec/11). -/
def bufferRecord (r : Vector Byte 32) : BufferRecord where
  isEmpty := field r 0x1F 1 == 0
  dataArea := alignedAddr 6 (field r 0x00 8)
  capacity := clamp 0 4096 (field r 0x10 2)
  nextRecord := alignedAddr 4 (field r 0x08 8)

/-! ### Transport packet header (R119, spec/11) -/

/-- The 13-bit PID. -/
def packetPid (p : Vector Byte 188) : Nat :=
  field p 1 1 % 32 * 256 + field p 2 1

/-- The content indicator says payload present. -/
def packetHasPayload (p : Vector Byte 188) : Bool :=
  (byteAt p 3).getLsbD 4

/-- The continuity number. -/
def packetContinuity (p : Vector Byte 188) : BitVec 4 :=
  (byteAt p 3).setWidth 4

end Sys2Proof.Machine
end

