-- ==== Sys2Proof/Machine/Records.lean ====
section
/-! DEFINITION. The bytes the part writes: the span of each write and its layout (R181, spec/11). Reserved bytes are written as 0. -/

namespace Sys2Proof.Machine

/-- A value as `k` bytes, little-endian. -/
def leBytes : Nat → Nat → List Byte
  | 0, _ => []
  | k + 1, x => BitVec.ofNat 8 x :: leBytes k (x / 256)

/-- `k` reserved bytes. -/
def zeros (k : Nat) : List Byte :=
  List.replicate k 0

/-- A Station Timer value as 64 bits with bits 63–48 zero. -/
def timeBytes (t : Time) : List Byte :=
  leBytes 8 t.toNat

/-- A counter. -/
def counterBytes (c : Counter) : List Byte :=
  leBytes 4 c.toNat

/-! ### Codes of spec/11 -/

def Mast.code : Mast → Nat
  | .a => 0
  | .b => 1

def LanePhase.code : LanePhase → Nat
  | .off => 0
  | .seek => 1
  | .track => 2
  | .lock => 3
  | .fade => 4

def StreamPhase.code : StreamPhase → Nat
  | .closed => 0
  | .opened => 1
  | .starved => 2
  | .closing => 3
  | .halted => 4

def DeviceState.code : DeviceState → Nat
  | .idle => 0
  | .loading => 1
  | .running => 2
  | .stopping => 3
  | .faulted => 4

def LoadFault.code : LoadFault → Nat
  | .none => 0
  | .badSignature => 1
  | .badVersion => 2
  | .linkError => 3

def PartMark.code : PartMark → Nat
  | .accepted => 1
  | .taken => 2
  | .refused => 3

def RefusalReason.code : RefusalReason → Nat
  | .none => 0
  | .freqRange => 1
  | .badBandwidth => 2
  | .badAction => 3
  | .badMode => 4
  | .overlap => 5

def CloseReason.code : CloseReason → Nat
  | .capacity => 1
  | .flush => 2
  | .close => 3
  | .fault => 4

/-- The mark written at a close: FULL, or FAULTED for the reason FAULT (R146). -/
def CloseReason.markCode : CloseReason → Nat
  | .capacity => 2
  | .flush => 2
  | .close => 2
  | .fault => 3

/-- The codes of the marks FILLING and EMPTY. -/
def fillingCode : Nat := 1
def emptyCode : Nat := 0

def FaultKind.code : FaultKind → Nat
  | .none => 0
  | .readError => 1
  | .writeError => 2

def FaultRequester.code : FaultRequester → Nat
  | .planFetcher => 0x00
  | .statusWriter => 0x01
  | .stream n => 0x10 + n.val

/-- A field that may hold none: 0xFF (R181). -/
def optionCode : Option Nat → Nat
  | none => 0xFF
  | some x => x

/-! ### QI (R43) -/

/-- Reported quality: Qacc divided by 256 and rounded, a half rounded up; 0 while unseeded (R43). -/
def QualityTracker.qi (t : QualityTracker) : Nat :=
  if t.seeded then (t.qacc + 128) / 256 else 0

/-! ### Record contents -/

/-- The write-back of a Lane Slot: bytes 0x30–0x3F (R93, R111). -/
def WriteBackImage.bytes (i : WriteBackImage) : List Byte :=
  leBytes 1 i.mark.code ++ leBytes 1 i.reason.code ++ leBytes 2 i.appliedTag.toNat ++ leBytes 2 i.adjusted.toNat
    ++ zeros 2 ++ timeBytes i.timeAtTake

/-- The eight lane counters in the order of the Lane Status Record. -/
def LaneCounters.bytes (c : LaneCounters) : List Byte :=
  counterBytes c.delivered ++ counterBytes c.uncorrectable ++ counterBytes c.correctedBytes
    ++ counterBytes c.preLockDiscards ++ counterBytes c.routerDrops ++ counterBytes c.blankedSymbols
    ++ counterBytes c.switches ++ counterBytes c.seekCycles

/-- A Lane Status Record with update count `updates` (R72, R175). -/
def laneRecordBytes (l : Lane) (lastMean : Option Nat) (updates : Counter) : List Byte :=
  counterBytes updates ++ leBytes 1 l.phase.code ++ leBytes 1 (Mast.code l.activeMast)
    ++ leBytes 1 (optionCode (l.recognizer.recognised.map Fin.val)) ++ leBytes 1 l.tracker.qi
    ++ leBytes 1 l.tracker.lastRaw ++ leBytes 1 (optionCode lastMean) ++ leBytes 2 l.appliedTag.toNat
    ++ l.counters.bytes ++ zeros 4 ++ timeBytes l.lastChange ++ zeros 4 ++ counterBytes updates

/-- The last fault fields of the Station Status Record (R165, offsets 0x30–0x3F). -/
def LastFault.bytes (f : LastFault) : List Byte :=
  leBytes 1 f.kind.code ++ leBytes 1 f.requester.code ++ zeros 2 ++ leBytes 4 f.address.toNat ++ timeBytes f.time

/-- The device state a Station Status Record shows: IDLE in the final write of STOPPING (R171, R175). -/
def State.reportedDevice (s : State) : DeviceState :=
  if s.status.finalGroup then .idle else s.link.device

/-- The Station Status Record with update count `updates` (R175). DEDUCED: of the mast trims it holds the flags TRIM_A and TRIM_B alone, by R2,
R175 and the layout of chapter 11; R48 speaks of the trims too (log entry 36). -/
def stationRecordBytes (s : State) (updates : Counter) : List Byte :=
  counterBytes updates ++ leBytes 1 s.reportedDevice.code ++ zeros 3 ++ timeBytes s.time
    ++ counterBytes s.mastA.count ++ counterBytes s.mastB.count ++ counterBytes s.router.drops
    ++ counterBytes s.router.unmatched ++ counterBytes s.router.breaks ++ counterBytes s.router.repeats
    ++ counterBytes s.fetcher.superseded ++ counterBytes s.link.linkErrors ++ s.link.lastFault.bytes
    ++ counterBytes s.router.version ++ leBytes 1 s.station.rejected.toNat ++ zeros 1
    ++ leBytes 2 s.station.adjusted.toNat ++ zeros 52 ++ counterBytes updates

/-- The seven stream counters in the order of the Stream Record. -/
def StreamCounters.bytes (c : StreamCounters) : List Byte :=
  counterBytes c.buffersClosed ++ counterBytes c.slotsWritten ++ counterBytes c.droppedStarved
    ++ counterBytes c.droppedFifo ++ counterBytes c.droppedFault ++ counterBytes c.droppedClosed
    ++ counterBytes c.withheld

/-- The write-back of a Stream Record: bytes 0x10–0x3F (R154). -/
def StreamWriter.writeBackBytes (w : StreamWriter) : List Byte :=
  leBytes 1 w.phase.code ++ zeros 7 ++ leBytes 8 w.currentRecord.toNat ++ w.counters.bytes ++ zeros 4

/-- A first-slot stamp as its 48 bits, 0 when no slot was written (R146, R179). -/
def stampBytes (t : Option Time) : List Byte :=
  match t with
  | none => zeros 6
  | some t => leBytes 6 t.toNat

/-- The closing fields of a Buffer Record: bytes 0x12–0x1E (R146, R181). -/
def BufferClose.fieldBytes (c : BufferClose) (sequence : Counter) : List Byte :=
  leBytes 2 c.filled ++ counterBytes sequence ++ stampBytes c.stamp ++ leBytes 1 c.reason.code

/-- The slot tag (R142; bit places of spec/11). -/
def Slot.tag (p : Slot) : BitVec 32 :=
  BitVec.ofNat 32 (p.lane.val + 16 * Mast.code p.mast + 32 * p.uncorrectable.toNat + 64 * p.continuityBreak.toNat
    + 128 * p.stamp.toNat)

/-- The 192 bytes of a packet slot (R142). -/
def Slot.bytes192 (p : Slot) : List Byte :=
  leBytes 4 p.tag.toNat ++ p.bytes.toList

end Sys2Proof.Machine
end

