-- ==== Sys2Proof/Machine/Quality.lean ====
section
/-! DEFINITION. Signal quality arithmetic (chapter 3): the level function, raw and trimmed samples, the blanking verdict and the
accumulator, shared by the Quality Tracker and the Survey Unit. -/

namespace Sys2Proof.Machine

/-- The level L(x) of a power x in 1..65535 (R33). -/
def level (x : Nat) : Nat :=
  let p := Nat.log2 x
  if 3 ≤ p then 8 * p + (x / 2 ^ (p - 3) - 8) else 8 * p + (x * 2 ^ (3 - p) - 8)

/-- The raw sample of signal power S and error power E (R34). -/
def rawSample (signal error : BitVec 16) : Nat :=
  if signal = 0 then 0
  else if error = 0 then 127
  else level signal.toNat - level error.toNat

/-- The trimmed sample: the trim added, taken into 0..127 (R35). -/
def trimmedSample (raw : Nat) (trim : Int) : Nat :=
  clamp 0 127 (raw + trim).toNat

/-- The blanking verdict of R36: whether the report is excused, and the consecutive-hit count afterwards. -/
def blanking (hit : Bool) (hits blankLimit : Nat) : Bool × Nat :=
  if hit then (decide (hits < blankLimit), min 255 (hits + 1)) else (false, 0)

/-- The accumulator after an update towards 256 × s: the step is d / 2^k truncated toward zero (R41). -/
def accumulate (qacc sample smoothing : Nat) : Nat :=
  let d : Int := 256 * (sample : Int) - (qacc : Int)
  ((qacc : Int) + d.tdiv (2 ^ smoothing)).toNat

/-- The tracker after a used sample: the first one seeds it (R40), a later one moves it (R41). The raw sample is kept. -/
def QualityTracker.take (t : QualityTracker) (raw sample smoothing : Nat) : QualityTracker :=
  { t with
    seeded := true
    qacc := if t.seeded then accumulate t.qacc sample smoothing else 256 * sample
    lastRaw := raw }

/-- The tracker reseeded from a survey mean at a switch: b becomes 0, the last raw sample is kept (R45, R90). -/
def QualityTracker.reseed (t : QualityTracker) (mean : Nat) : QualityTracker :=
  { t with seeded := true, qacc := 256 * mean, hits := 0 }

end Sys2Proof.Machine
end

