-- ==== Sys2Proof/Machine/Recognizer.lean ====
section
/-! DEFINITION. Transmission mode recognition (chapter 2): the allowed set, the candidate search in SEEK and the mode check in TRACK,
LOCK and FADE. -/

namespace Sys2Proof.Machine

/-- The window of an entry contains P when |P − Pexp| ≤ tolerance (section 2.1). -/
def ModeEntry.contains (e : ModeEntry) (period : Nat) : Bool :=
  e.period ≤ period + e.tolerance && period ≤ e.period + e.tolerance

/-- The allowed set of a mode policy under the table in force, in rising entry order (R19). -/
def allowedSet (modes : ModeTable) (policy : ModePolicy) : List EntryId :=
  allEntries.filter fun n =>
    modes[n].isSome && match policy with
      | .auto => true
      | .fixed m => n == m

/-- The window of entry n contains P; false of an entry that is not usable. -/
def entryContains (modes : ModeTable) (period : Nat) (n : EntryId) : Bool :=
  match modes[n] with
  | none => false
  | some e => e.contains period

/-- The lowest-numbered allowed entry whose window contains P, if there is one (R19). -/
def lowestMatch (modes : ModeTable) (allowed : List EntryId) (period : Nat) : Option EntryId :=
  allowed.find? (entryContains modes period)

/-- What a report brings the Lane Controller from the recognizer (R20). -/
inductive RecognizerEvent where
  | quiet
  | recognition
  | modeLoss
deriving DecidableEq, Repr

/-- The recognizer with candidate m newly formed, or with none (R22, R24). -/
def Recognizer.form (r : Recognizer) (found : Option EntryId) : Recognizer :=
  match found with
  | some m => { r with candidate := some m, matchesHeld := 1, missesHeld := 0 }
  | none => { r with candidate := none, matchesHeld := 0, missesHeld := 0 }

/-- The recognizer on which recognition of entry c has completed (R25). -/
def Recognizer.recognise (c : EntryId) : Recognizer :=
  { candidate := none, matchesHeld := 0, missesHeld := 0, recognised := some c, lossCount := 0 }

/-- A non-excused report in SEEK (R22 to R25). A candidate that is no usable entry has an empty window and is dropped; R21 says there is
none. -/
def Recognizer.search (r : Recognizer) (modes : ModeTable) (allowed : List EntryId) (period : Nat) :
    Recognizer × RecognizerEvent :=
  match r.candidate with
  | none =>
    match lowestMatch modes allowed period with
    | none => (r, .quiet)
    | some m => (r.form (some m), .quiet)
  | some c =>
    match modes[c] with
    | none => (r.form (lowestMatch modes allowed period), .quiet)
    | some e =>
      if e.contains period then
        if e.matchCount ≤ r.matchesHeld + 1 then (.recognise c, .recognition)
        else ({ r with matchesHeld := r.matchesHeld + 1, missesHeld := 0 }, .quiet)
      else if e.missCount ≤ r.missesHeld + 1 then (r.form (lowestMatch modes allowed period), .quiet)
      else ({ r with missesHeld := r.missesHeld + 1 }, .quiet)

/-- A non-excused report in TRACK, LOCK or FADE (R27, R28). Without a usable recognised entry, which R21 excludes, nothing is checked. -/
def Recognizer.check (r : Recognizer) (modes : ModeTable) (period : Nat) : Recognizer × RecognizerEvent :=
  match r.recognised with
  | none => (r, .quiet)
  | some n =>
    match modes[n] with
    | none => (r, .quiet)
    | some e =>
      if e.contains period then ({ r with lossCount := 0 }, .quiet)
      else if e.missCount ≤ r.lossCount + 1 then ({ r with lossCount := r.lossCount + 1 }, .modeLoss)
      else ({ r with lossCount := r.lossCount + 1 }, .quiet)

end Sys2Proof.Machine
end

