-- ==== Sys2Proof/Machine/Requests.lean ====
section
/-! DEFINITION. Class-1 requests: who has one outstanding, who has something to transfer, and how new requests join the Record Queue
(R159, R160); and STATUS-NOW, which the Plan Fetcher takes without a transfer (R172, R173). -/

namespace Sys2Proof.Machine

/-- The requester of a transfer in class 1; none for a slot write, which is class 2 (R159). -/
def TransferKind.requester : TransferKind → Option Requester
  | .stationBlockRead => some .fetcher
  | .laneSlotRead _ => some .fetcher
  | .laneSlotWriteBack _ _ => some .fetcher
  | .filterBlockRead _ => some .fetcher
  | .streamRecordRead _ => some .fetcher
  | .bufferRecordRead n => some (.stream n)
  | .fillingWrite n => some (.stream n)
  | .closingFieldsWrite n => some (.stream n)
  | .markWrite n => some (.stream n)
  | .emptyMarkWrite n => some (.stream n)
  | .streamWriteBack n => some (.stream n)
  | .statusRecordWrite r => some (.status r)
  | .slotWrite _ => none

/-- The transfer in flight that will be handed to a requester: one abandoned by a soft reset is handed to none (R166). DESIGN CHOICE: so it is
no requester's outstanding request any more (log entry 35). -/
def State.inFlight (s : State) : Option TransferKind :=
  match s.arbiter.port with
  | none => none
  | some t => if t.abandoned then none else some t.kind

/-- A requester has a class-1 request outstanding: it waits in the Record Queue or its transfer is in flight (R159). DESIGN CHOICE: a transfer
abandoned by a soft reset does not count, so its requester may place a new request while it is still on the link (log entry 35). -/
def State.outstanding (s : State) (r : Requester) : Bool :=
  s.arbiter.queue.contains r ||
    match s.inFlight with
    | none => false
    | some k => k.requester == some r

/-- No item of the pending set but possibly STATUS-NOW. -/
def PendingSet.onlyStatusNow (p : PendingSet) : Bool :=
  !(Vec.any id p.lanes || p.filter || Vec.any id p.streams)

/-- An owed Lane Slot write-back exists (R111). -/
def PlanFetcher.owes (f : PlanFetcher) : Bool :=
  Vec.any SlotAnswer.owed f.answers

/-- A Filter Table load whose shadow is being filled (R130). -/
def Shadow.isFilling : Shadow → Bool
  | .none => false
  | .filling _ _ _ => true
  | .ready _ => false

/-- The Plan Fetcher has a transfer to make: an owed write-back (R111), the Station Block (R170), the next block of a load (R130),
or a pending item to read (R172). -/
def State.fetcherWants (s : State) : Bool :=
  s.fetcher.owes
    || (s.link.device == .loading && s.fetcher.loadRead == .wanted)
    || (s.link.device == .running &&
        (s.router.shadow.isFilling || (s.fetcher.item.isNone && !s.fetcher.pendingSet.onlyStatusNow)))

/-- A Stream Writer has a class-1 transfer to make: a Buffer Record transfer, or its own write-back (R154). -/
def StreamWriter.wants (w : StreamWriter) : Bool :=
  w.job != .none || w.owed

/-- A Stream Writer has a class-2 request waiting (R162). -/
def StreamWriter.slotWaiting (w : StreamWriter) : Bool :=
  w.position == .holding && !w.fifo.isEmpty && w.inFlight.isNone

/-- The streams with a class-2 request waiting, in rising order (R162). -/
def State.slotRequests (s : State) : List StreamId :=
  allStreams.filter fun n => (s.stream n).slotWaiting

/-- A Status Record is owed (R174). -/
def StatusWriter.owes (w : StatusWriter) : StatusRecord → Bool
  | .station => w.stationOwed
  | .lane n => w.lanesOwed[n]

/-- The Status Records in the order in which the Status Writer places their requests (R174). -/
def allRecords : List StatusRecord :=
  .station :: allLanes.map .lane

/-- The requests the Status Writer places now, in their order (R174). -/
def State.newStatusRequests (s : State) : List Requester :=
  (allRecords.filter fun r => s.status.owes r && !s.outstanding (.status r)).map .status

/-- The requests the Plan Fetcher and the Stream Writers place now (R159). -/
def State.newSingleRequests (s : State) : List Requester :=
  (if s.fetcherWants && !s.outstanding .fetcher then [Requester.fetcher] else [])
    ++ (allStreams.filter fun n => (s.stream n).wants && !s.outstanding (.stream n)).map .stream

/-- Requests placed together stand in whichever order the Arbiter takes them (R160): `r` goes to a free place among `placed`.
`picks` counts the free values read. -/
def placeAmong (placed : List Requester) (picks : Nat) (r : Requester) : List Requester × Nat :=
  match placed with
  | [] => ([r], picks)
  | _ :: _ => (placed.insertIdx (Config.placeAt picks % (placed.length + 1)) r, picks + 1)

/-- The requests placed together: the Status Writer's keep their own order (R174), each other one stands at a free place. -/
def shuffleIn : List Requester → List Requester → Nat → List Requester × Nat
  | placed, [], picks => (placed, picks)
  | placed, r :: rs, picks =>
    let step := placeAmong placed picks r
    shuffleIn step.1 rs step.2

/-- The stream whose completion freed the port, when that completion has let it place a class-2 request, as long as that request waits
(R161, R162). One that places none then is a requester like any other, whatever it places later (R163). -/
def State.racingStream (s : State) : Option StreamId :=
  s.arbiter.handedTo.filter fun n => (s.stream n).slotWaiting

/-- Every requester that has something to transfer and no request outstanding places one, at the tail (R159, R160). With the port free
the next grant may be taken before the new ones, and before the class-2 request of the stream whose completion freed it (R161, log entry
2). -/
def State.placeRequests (s : State) : State :=
  let new := shuffleIn s.newStatusRequests s.newSingleRequests s.picks
  { s with
    picks := new.2
    arbiter := { s.arbiter with
      queue := s.arbiter.queue ++ new.1
      fresh := if s.arbiter.port.isNone then s.arbiter.fresh + new.1.length else s.arbiter.fresh
      handedTo := s.racingStream } }

/-- STATUS-NOW, once it is the first item present and no item is in hand, is taken at once: all thirteen Status Records are
asked for (R172, R173). -/
def State.takeStatusNow (s : State) : State :=
  let p := s.fetcher.pendingSet
  if s.link.device == .running && s.fetcher.item.isNone && p.statusNow && p.onlyStatusNow then
    State.oweAll { s with fetcher := { s.fetcher with pendingSet := { p with statusNow := false } } }
  else s

/-- What the requesters do once a step's own effects are made: STATUS-NOW is taken and requests are placed. -/
def State.settle (s : State) : State :=
  s.takeStatusNow.placeRequests

end Sys2Proof.Machine
end

