-- ==== Sys2Proof/Machine/Survey.lean ====
section
/-! DEFINITION. The Survey Unit (chapter 5): its queue, the choice of a request, dwells, preemption, the decision and the switch order. -/

namespace Sys2Proof.Machine

/-- A waiting request is eligible when its lane has no waiting switch order (R80). -/
def State.eligible (s : State) (r : SurveyRequest) : Bool :=
  (s.lane r.lane).switchOrder.isNone

/-- The request of the lowest-numbered lane, among requests of different lanes (R81, order LANE). -/
def lowestLane : List SurveyRequest → Option SurveyRequest
  | [] => none
  | r :: rs =>
    match lowestLane rs with
    | none => some r
    | some q => if q.lane < r.lane then some q else some r

/-- The choice within one class by the survey order (R81). -/
def pickByOrder (order : SurveyOrder) (rs : List SurveyRequest) : Option SurveyRequest :=
  match order with
  | .arrival => rs.head?
  | .lane => lowestLane rs

/-- The request chosen among the eligible ones: a FADE-class one before any LOCK-class one (R81). -/
def chooseRequest (order : SurveyOrder) (rs : List SurveyRequest) : Option SurveyRequest :=
  match pickByOrder order (rs.filter fun r => r.cls == .fade) with
  | some r => some r
  | none => pickByOrder order (rs.filter fun r => r.cls == .lock)

/-- A dwell starts for a request: the record is filled and the survey tap set to the lane's applied channel on the mast opposite its
active mast (R82, R7). A lane with a request holds an applied plan (R79); without one nothing starts. -/
def State.startDwell (s : State) (r : SurveyRequest) : State :=
  match (s.lane r.lane).applied with
  | none => s
  | some p =>
    let mast := opposite (s.lane r.lane).activeMast
    { s with survey := { s.survey with
        queue := s.survey.queue.erase r
        dwell := some { lane := r.lane, cls := r.cls, mast := mast, length := p.dwell, settling := 0, sampled := 0,
                        sum := 0, count := 0, hits := 0 }
        tap := { setting := some { centre := p.centre, bandwidth := p.bandwidth, mast := mast }, hit := false } } }

/-- The tap is made idle and the dwell record discarded (R85, R89). -/
def State.clearDwell (s : State) : State :=
  { s with survey := { s.survey with dwell := none, tap := .idle } }

/-- A running LOCK-class dwell is preempted when an eligible FADE-class request of another lane waits: its request returns to the
head of the queue (R86). A FADE-class dwell is not preempted (R87). -/
def State.preempt (s : State) : State :=
  match s.survey.dwell with
  | none => s
  | some d =>
    if d.cls == .lock && s.survey.queue.any (fun r => r.cls == .fade && r.lane != d.lane && s.eligible r) then
      let t := s.clearDwell
      { t with survey := { t.survey with queue := { lane := d.lane, cls := .lock } :: t.survey.queue } }
    else s

/-- Whenever no dwell runs and an eligible request waits, one is chosen and its dwell starts (R80). -/
def State.chooseSurvey (s : State) : State :=
  match s.survey.dwell with
  | some _ => s
  | none =>
    match chooseRequest s.station.surveyOrder (s.survey.queue.filter s.eligible) with
    | none => s
    | some r => s.startDwell r

/-- What the Survey Unit does whenever its requests or their eligibility change: preempt, then choose (R80, R86). -/
def State.surveySettle (s : State) : State :=
  s.preempt.chooseSurvey

/-- Lane n has a request pending: waiting, or held by the current dwell (R64, R73). -/
def State.hasRequest (s : State) (n : LaneId) : Bool :=
  s.survey.queue.any (fun r => r.lane == n) ||
    match s.survey.dwell with
    | none => false
    | some d => d.lane == n

/-- A request is appended at the tail (R76, R77). -/
def State.fileRequest (s : State) (n : LaneId) (cls : SurveyClass) : State :=
  State.surveySettle
    { s with survey := { s.survey with queue := s.survey.queue ++ [{ lane := n, cls := cls }] } }

/-- An entry-to-FADE request files a FADE-class request, or upgrades the lane's pending one where it stands (R77). -/
def State.fadeRequest (s : State) (n : LaneId) : State :=
  if s.hasRequest n then
    State.surveySettle
      { s with survey := { s.survey with
          queue := s.survey.queue.map fun r => if r.lane == n then { r with cls := .fade } else r
          dwell := s.survey.dwell.map fun d => if d.lane == n then { d with cls := .fade } else d } }
  else s.fileRequest n .fade

/-- Lane n's request is taken out of the Survey Unit: out of the queue, or its dwell abandoned (R78). -/
def State.dropRequest (s : State) (n : LaneId) : State :=
  let t : State := { s with survey := { s.survey with queue := s.survey.queue.filter fun r => r.lane != n } }
  match t.survey.dwell with
  | none => t
  | some d => if d.lane == n then t.clearDwell else t

/-- Lane n's pending request is withdrawn, and a free tap is given to the next request; without one nothing changes (R78). -/
def State.withdrawRequest (s : State) (n : LaneId) : State :=
  if s.hasRequest n then (s.dropRequest n).surveySettle else s

/-- The dwell after a sampled report (R46, R84): the blanking verdict is R36's, with the survey count and the lane's B. -/
def Dwell.sample (d : Dwell) (hit : Bool) (blankLimit raw : Nat) (trim : Int) : Dwell :=
  let verdict := blanking hit d.hits blankLimit
  if verdict.1 then { d with sampled := d.sampled + 1, hits := verdict.2 }
  else { d with sampled := d.sampled + 1, hits := verdict.2, sum := d.sum + trimmedSample raw trim, count := d.count + 1 }

/-- The dwell's result: the survey mean, or no result (R47). -/
def Dwell.result (d : Dwell) : Option Nat :=
  if d.count = 0 then none else some (d.sum / d.count)

/-- The requirement a survey mean must reach: QI + margin in LOCK, QI + half-margin in FADE (R88). -/
def switchRequirement (phase : LanePhase) (qi margin : Nat) : Nat :=
  if phase == .fade then qi + max 1 (margin / 2) else qi + margin

/-- The switch order a dwell end hands, if any (R88). -/
def switchDecision (l : Lane) (p : TunePlan) (result : Option Nat) : Option Nat :=
  match result with
  | none => none
  | some mean => if switchRequirement l.phase l.tracker.qi p.margin ≤ mean then some mean else none

/-- The dwell end (R88, R89): the decision, the last survey mean, the request removed, the tap idle, the lane's survey-interval timer
restarted, the next choice. -/
def State.endDwell (s : State) (d : Dwell) (p : TunePlan) : State :=
  let order := switchDecision (s.lane d.lane) p d.result
  let t := s.modLane d.lane fun l =>
    { l with
      switchOrder := match order with
        | none => l.switchOrder
        | some mean => some mean
      surveyTimer := some (deadline s.time (p.surveyInterval * Config.oneSecond)) }
  let u : State := { t with survey := { t.survey with lastMean := t.survey.lastMean.set d.lane d.result } }
  u.clearDwell.surveySettle

/-- A survey report is taken by the dwell: one of two settling reports (R83), or a sampled report (R84). The tap's hit mark is
cleared (R7). -/
def State.takeSurveyReport (s : State) (d : Dwell) (p : TunePlan) (signal error : BitVec 16) : State :=
  let hit := s.survey.tap.hit
  let t : State := { s with survey := { s.survey with tap := { s.survey.tap with hit := false } } }
  if d.settling < 2 then
    { t with survey := { t.survey with dwell := some { d with settling := d.settling + 1 } } }
  else
    let e := d.sample hit p.blankLimit (rawSample signal error) (s.station.trim d.mast)
    let u : State := { t with survey := { t.survey with dwell := some e } }
    if e.length ≤ e.sampled then u.endDwell e p else u

/-- SURVEY_REPORT (R84). With no dwell the tap is idle and delivers no report (R7). -/
def execSurveyReport (signal error : BitVec 16) (s : State) : Host.Outcome State Fault Refusal :=
  match s.survey.dwell with
  | none => .next s
  | some d =>
    match (s.lane d.lane).applied with
    | none => .next s
    | some p => .next (s.takeSurveyReport d p signal error)

/-- SURVEY_INTERVAL_EXPIRY (R64): the timer stops, and a lane in LOCK or FADE under an AUTO policy with no request pending files a
LOCK-class request. An expiry arises only at the timer's deadline (R13). -/
def execSurveyIntervalExpiry (n : LaneId) (s : State) : Host.Outcome State Fault Refusal :=
  let l := s.lane n
  if expiresAt l.surveyTimer s.time then
    let t := s.setLane n { l with surveyTimer := none }
    let auto := match l.applied with
      | none => false
      | some p => p.mastPolicy.isAuto
    if l.phase.delivers && auto && !s.hasRequest n then .next (t.fileRequest n .lock) else .next t
  else .next s

end Sys2Proof.Machine
end

