-- ==== Sys2Proof/Machine/Lane.lean ====
section
/-! DEFINITION. The Lane Controller (chapter 4): the entries to the lane states, what a symbol report does in its five steps, the apply
of a plan (R108 to R110), the switch (R90), the lane's timers and the packet gate. -/

namespace Sys2Proof.Machine

/-! ### Entries to the lane states -/

/-- The lane's own part of an entry to SEEK (R54, steps 1 to 7). -/
def Lane.enterSeek (l : Lane) (p : TunePlan) (now : Time) : Lane :=
  { l with
    phase := .seek
    lastChange := now
    tap := { setting := some { centre := p.centre, bandwidth := p.bandwidth, mast := l.activeMast }, hit := false }
    recognizer := .cleared
    tracker := .cleared
    lockIn := 0, fadeRun := 0, recoverRun := 0, hold := 0
    seekTimer := some (deadline now (p.seekLimit * Config.tenMilliseconds))
    surveyTimer := none
    switchOrder := none
    firstAfterLock := false }

/-- Entry to SEEK under the applied plan p (R54). -/
def State.enterSeek (s : State) (n : LaneId) (p : TunePlan) : State :=
  ((s.modLane n fun l => l.enterSeek p s.time).withdrawRequest n |>.oweLane n).raiseIf p.notify.state .lane

/-- The lane's own part of the entry to TRACK (R56, R45). -/
def Lane.enterTrack (l : Lane) (now : Time) : Lane :=
  { l with
    phase := .track
    lastChange := now
    lockIn := 0
    tracker := { l.tracker with seeded := false, qacc := 0 } }

/-- Entry to TRACK (R56). -/
def State.enterTrack (s : State) (n : LaneId) (p : TunePlan) : State :=
  ((s.modLane n fun l => l.enterTrack s.time).oweLane n).raiseIf p.notify.state .lane

/-- The lane's own part of the entry to LOCK from TRACK (R58). -/
def Lane.enterLock (l : Lane) (p : TunePlan) (now : Time) : Lane :=
  { l with
    phase := .lock
    lastChange := now
    seekTimer := none
    fadeRun := 0
    lockIn := 0
    surveyTimer := if p.mastPolicy.isAuto then some (deadline now (p.surveyInterval * Config.oneSecond)) else l.surveyTimer
    firstAfterLock := true }

/-- Entry to LOCK from TRACK (R58). -/
def State.enterLock (s : State) (n : LaneId) (p : TunePlan) : State :=
  ((s.modLane n fun l => l.enterLock p s.time).oweLane n).raiseIf p.notify.state .lane

/-- The lane's own part of the entry to LOCK from FADE: steps 1 and 3 of R58 (R60). DESIGN CHOICE: a first-after-lock mark that is still set
stays set (log entry 29). -/
def Lane.recover (l : Lane) (now : Time) : Lane :=
  { l with phase := .lock, lastChange := now, fadeRun := 0, lockIn := 0, recoverRun := 0 }

/-- Entry to LOCK from FADE (R58, R60). -/
def State.recoverLock (s : State) (n : LaneId) (p : TunePlan) : State :=
  ((s.modLane n fun l => l.recover s.time).oweLane n).raiseIf p.notify.state .lane

/-- The lane's own part of the entry to FADE (R59). -/
def Lane.enterFade (l : Lane) (now : Time) : Lane :=
  { l with phase := .fade, lastChange := now, hold := 0, recoverRun := 0, fadeRun := 0 }

/-- Entry to FADE (R59): under an AUTO policy an entry-to-FADE request is handed to the Survey Unit. -/
def State.enterFade (s : State) (n : LaneId) (p : TunePlan) : State :=
  let t := s.modLane n fun l => l.enterFade s.time
  let u := if p.mastPolicy.isAuto then t.fadeRequest n else t
  (u.oweLane n).raiseIf p.notify.state .lane

/-- The lane's own part of an entry to OFF: steps 2 to 5 of R67, the applied plan none. A lane not already in OFF becomes OFF and
is stamped. -/
def Lane.enterOff (l : Lane) (now : Time) : Lane :=
  { l with
    phase := .off
    applied := none
    lastChange := if l.phase == .off then l.lastChange else now
    tap := .idle
    recognizer := .cleared
    tracker := .cleared
    lockIn := 0, fadeRun := 0, recoverRun := 0, hold := 0
    firstAfterLock := false
    seekTimer := none
    surveyTimer := none
    switchOrder := none }

/-! ### Applying a plan (R108 to R110) -/

/-- A TUNE plan taken against the applied plan is a retune when one of the four comparisons of R109 says so. -/
def isRetune (modes : ModeTable) (activeMast : Mast) (old new : TunePlan) : Bool :=
  old.centre != new.centre || old.bandwidth != new.bandwidth
    || allowedSet modes old.modePolicy != allowedSet modes new.modePolicy
    || (!new.mastPolicy.isAuto && new.mastPolicy.start != activeMast)

/-- An applied STOP plan (R67, R73). -/
def State.applyStop (s : State) (n : LaneId) (notify : NotifyFlags) : State :=
  let wasOff := (s.lane n).phase == .off
  let t := s.modLane n fun l => { l.enterOff s.time with counters := .zero }
  let u := t.withdrawRequest n
  let v : State := { u with survey := { u.survey with lastMean := u.survey.lastMean.set n none } }
  v.raiseIf (!wasOff && notify.state) .lane

/-- A TUNE plan applied in OFF, or a retune (R55): the plan becomes the applied plan, the active mast is set from it, SEEK is
entered. -/
def State.applyRetune (s : State) (n : LaneId) (p : TunePlan) : State :=
  (s.modLane n fun l => { l with applied := some p, activeMast := p.mastPolicy.start }).enterSeek n p

/-- The lane's own part of a parameter update (R66). -/
def Lane.update (l : Lane) (p : TunePlan) (now : Time) : Lane :=
  { l with
    applied := some p
    lockIn := 0, fadeRun := 0, recoverRun := 0
    surveyTimer :=
      if l.phase.delivers && p.mastPolicy.isAuto then some (deadline now (p.surveyInterval * Config.oneSecond)) else none
    switchOrder := if p.mastPolicy.isAuto then l.switchOrder else none }

/-- A parameter update (R66): under a fixed policy the survey request is withdrawn and a switch order dropped (R92). DESIGN CHOICE: the request
that the drop would make eligible is withdrawn before the Survey Unit looks at it, so that it preempts no dwell and starts none (log
entry 37). -/
def State.applyUpdate (s : State) (n : LaneId) (p : TunePlan) : State :=
  let t := s.modLane n fun l => l.update p s.time
  if p.mastPolicy.isAuto then t else t.withdrawRequest n

/-- The write-back image formed at a take becomes owed (R108, step 4). -/
def State.answerTaken (s : State) (n : LaneId) (tag : Tag) (adjusted : BitVec 16) : State :=
  s.setAnswer n
    { s.answer n with
      image := { mark := .taken, appliedTag := tag, reason := .none, adjusted := adjusted, timeAtTake := s.time }
      owed := true }

/-- What every take does beside the lane's own changes (R108): applied tag, no pending plan, no apply window, TAKEN image, record
asked for. -/
def State.finishTake (s : State) (n : LaneId) (tag : Tag) (adjusted : BitVec 16) : State :=
  ((s.modLane n fun l => { l with appliedTag := tag, pendingPlan := none, applyWindow := none }).answerTaken n tag adjusted).oweLane n

/-- The lane's own changes at the take of a TUNE plan, by its state and the kind of plan (R110). -/
def State.applyTune (s : State) (n : LaneId) (p : TunePlan) : State :=
  match (s.lane n).phase, (s.lane n).applied with
  | .off, _ => s.applyRetune n p
  | _, none => s.applyRetune n p
  | _, some old =>
    if isRetune s.station.modes (s.lane n).activeMast old p then s.applyRetune n p else s.applyUpdate n p

/-- A take: the plan applies to lane n (R108, R110). -/
def State.takePlan (s : State) (n : LaneId) (plan : AcceptedPlan) : State :=
  match plan with
  | .tune tag p adjusted => (s.applyTune n p).finishTake n tag adjusted
  | .stop tag notify => (s.applyStop n notify).finishTake n tag 0

/-- The pending plan of lane n, if any, applies (R105 to R107). -/
def State.takePending (s : State) (n : LaneId) : State :=
  match (s.lane n).pendingPlan with
  | none => s
  | some plan => s.takePlan n plan

/-! ### The symbol report (R53) -/

/-- Leaving LOCK or FADE for SEEK is the apply point of a pending plan, after the entry's own steps (R107). -/
def State.leaveForSeek (s : State) (n : LaneId) (p : TunePlan) : State :=
  (s.enterSeek n p).takePending n

/-- A report as the lane's own blocks see it. -/
structure SymbolReport where
  period : Nat
  signal : BitVec 16
  error : BitVec 16
  frameStart : Bool
deriving DecidableEq, Repr

/-- What the first three steps hand the Lane Controller: whether the report is excused, what the recognizer decided, and whether the
report was a used sample. -/
structure ReportVerdict where
  excused : Bool
  event : RecognizerEvent
  used : Bool
deriving DecidableEq, Repr

/-- Step one: the tap's hit mark goes into the report and is cleared (R3), the verdict moves b (R36), an excused report is counted
(R38). -/
def Lane.hearHit (l : Lane) (p : TunePlan) : Lane × Bool :=
  let verdict := blanking l.tap.hit l.tracker.hits p.blankLimit
  ({ l with
     tap := { l.tap with hit := false }
     tracker := { l.tracker with hits := verdict.2 }
     counters := if verdict.1 then { l.counters with blankedSymbols := satInc l.counters.blankedSymbols } else l.counters },
   verdict.1)

/-- Step two: the recognizer takes a non-excused report, searching in SEEK and checking in TRACK, LOCK and FADE (R22 to R29). -/
def Lane.recognize (l : Lane) (modes : ModeTable) (p : TunePlan) (excused : Bool) (period : Nat) :
    Lane × RecognizerEvent :=
  if excused then (l, .quiet)
  else
    let step := if l.phase.recognised then l.recognizer.check modes period
      else l.recognizer.search modes (allowedSet modes p.modePolicy) period
    ({ l with recognizer := step.1 }, step.2)

/-- The mast a lane's report carries: the one its tap is set to (R3). -/
def Lane.reportMast (l : Lane) : Mast :=
  match l.tap.setting with
  | none => l.activeMast
  | some t => t.mast

/-- Step three: a used sample moves the Quality Tracker (R39). -/
def Lane.sample (l : Lane) (station : StationSettings) (p : TunePlan) (signal error : BitVec 16) : Lane :=
  let raw := rawSample signal error
  { l with tracker := l.tracker.take raw (trimmedSample raw (station.trim l.reportMast)) p.smoothing }

/-- Steps one to three of R53. -/
def Lane.hear (l : Lane) (station : StationSettings) (p : TunePlan) (r : SymbolReport) : Lane × ReportVerdict :=
  let heard := l.hearHit p
  let decided := heard.1.recognize station.modes p heard.2 r.period
  let used := decided.1.phase.recognised && !heard.2 && decided.2 != .modeLoss
  (if used then decided.1.sample station p r.signal r.error else decided.1,
   { excused := heard.2, event := decided.2, used := used })

/-- A run of samples: one longer when the condition holds, back to 0 when it does not. -/
def nextRun (holds : Bool) (run : Nat) : Nat :=
  if holds then run + 1 else 0

/-- TRACK: the lock-in count moves on a used sample, and at CL the lane enters LOCK (R57). -/
def State.actTrack (s : State) (n : LaneId) (p : TunePlan) (used : Bool) : State :=
  if used then
    let run := nextRun (decide (p.lockThreshold ≤ (s.lane n).tracker.qi)) (s.lane n).lockIn
    let t := s.modLane n fun l => { l with lockIn := run }
    if p.lockCount ≤ run then t.enterLock n p else t
  else s

/-- LOCK: the fade count moves on a used sample, and at CF the lane enters FADE (R59). -/
def State.actLock (s : State) (n : LaneId) (p : TunePlan) (used : Bool) : State :=
  if used then
    let run := nextRun (decide ((s.lane n).tracker.qi < p.unlockThreshold)) (s.lane n).fadeRun
    let t := s.modLane n fun l => { l with fadeRun := run }
    if p.fadeCount ≤ run then t.enterFade n p else t
  else s

/-- FADE: the recover count moves on a used sample and the hold count on every report; CR is looked at before H (R60, R61). -/
def State.actFade (s : State) (n : LaneId) (p : TunePlan) (used : Bool) : State :=
  let l := s.lane n
  let run := if used then nextRun (decide (p.lockThreshold ≤ l.tracker.qi)) l.recoverRun else l.recoverRun
  let t := s.modLane n fun l => { l with recoverRun := run, hold := l.hold + 1 }
  if used && p.recoverCount ≤ run then t.recoverLock n p
  else if p.holdLimit ≤ l.hold + 1 then t.leaveForSeek n p
  else t

/-- Step four: the Lane Controller acts on the report (R56 to R62). -/
def State.actOnReport (s : State) (n : LaneId) (p : TunePlan) (v : ReportVerdict) : State :=
  match v.event with
  | .recognition => s.enterTrack n p
  | .modeLoss => s.leaveForSeek n p
  | .quiet =>
    match (s.lane n).phase with
    | .off => s
    | .seek => s
    | .track => s.actTrack n p v.used
    | .lock => s.actLock n p v.used
    | .fade => s.actFade n p v.used

/-- Step five: a frame-start report is the apply point of a pending plan (R105). -/
def State.frameStartApply (s : State) (n : LaneId) (frameStart : Bool) : State :=
  if frameStart then s.takePending n else s

/-- The lane's own part of a switch (R90, R5). -/
def Lane.switchMast (l : Lane) (mean : Nat) (p : TunePlan) (now : Time) : Lane :=
  { l with
    activeMast := opposite l.activeMast
    tap := { l.tap with setting := l.tap.setting.map fun t => { t with mast := opposite l.activeMast } }
    tracker := l.tracker.reseed mean
    lockIn := 0, fadeRun := 0, recoverRun := 0
    counters := { l.counters with switches := satInc l.counters.switches }
    surveyTimer := some (deadline now (p.surveyInterval * Config.oneSecond))
    switchOrder := none }

/-- The switch order `order` that waited for this symbol end takes effect when the lane still holds it in LOCK or FADE (R90); a lane that
has left them, or come under a fixed policy, has dropped it (R92). -/
def State.switchAtSymbolEnd (s : State) (n : LaneId) : State :=
  let l := s.lane n
  match l.switchOrder, l.applied with
  | some mean, some p =>
    if l.phase.delivers then
      ((s.setLane n (l.switchMast mean p s.time)).surveySettle.oweLane n).raiseIf p.notify.switch .lane
    else s
  | _, _ => s

/-- A symbol report in SEEK, TRACK, LOCK or FADE under the applied plan p: the five steps of R53, then a waiting switch. -/
def State.takeReport (s : State) (n : LaneId) (p : TunePlan) (r : SymbolReport) : State :=
  let heard := (s.lane n).hear s.station p r
  let acted := (s.setLane n heard.1).actOnReport n p heard.2
  (acted.frameStartApply n r.frameStart).switchAtSymbolEnd n

/-- SYMBOL_REPORT (R53). An idle tap delivers no report (R3), so in OFF there is none; outside OFF a lane holds an applied plan
(R50). -/
def execSymbolReport (n : LaneId) (period : Fin 16384) (signal error : BitVec 16) (frameStart : Bool) (s : State) :
    Host.Outcome State Fault Refusal :=
  match (s.lane n).phase, (s.lane n).applied with
  | .off, _ => .next s
  | _, none => .next s
  | _, some p =>
    .next (s.takeReport n p { period := period.val, signal := signal, error := error, frameStart := frameStart }).settle

/-! ### Timers of the lane -/

/-- The seek timer expires in SEEK or TRACK (R63): a seek cycle is counted, under an AUTO policy the mast toggles, SEEK is entered
again, and LANE is raised under the seek-timeout flag or the state flag. -/
def State.seekCycle (s : State) (n : LaneId) (p : TunePlan) : State :=
  let t := s.modLane n fun l =>
    { l with
      counters := { l.counters with seekCycles := satInc l.counters.seekCycles }
      activeMast := if p.mastPolicy.isAuto then opposite l.activeMast else l.activeMast }
  (t.enterSeek n p).raiseIf p.notify.seekTimeout .lane

/-- SEEK_TIMER_EXPIRY (R63). It arises only at the timer's deadline (R13), and the timer runs only in SEEK and TRACK (R50). -/
def execSeekTimerExpiry (n : LaneId) (s : State) : Host.Outcome State Fault Refusal :=
  let l := s.lane n
  if expiresAt l.seekTimer s.time then
    match l.phase, l.applied with
    | .seek, some p => .next (s.seekCycle n p).settle
    | .track, some p => .next (s.seekCycle n p).settle
    | _, _ => .next (s.setLane n { l with seekTimer := none })
  else .next s

/-- APPLY_WINDOW_EXPIRY (R106): the pending plan applies. It arises only at the window's deadline (R13). -/
def execApplyWindowExpiry (n : LaneId) (s : State) : Host.Outcome State Fault Refusal :=
  let l := s.lane n
  if expiresAt l.applyWindow s.time then
    .next ((s.setLane n { l with applyWindow := none }).takePending n).settle
  else .next s

/-! ### The packet gate (R69, R70) -/

/-- The bytes of a passed packet: in an uncorrectable one the gate writes 0x47 into the sync byte and sets the error mark (R70). -/
def gateBytes (packet : Vector Byte 188) (uncorrectable : Bool) : Vector Byte 188 :=
  if uncorrectable then (packet.set 0 0x47#8).set 1 (byteAt packet 1 ||| 0x80#8) else packet

/-- The arrival stamp: the Station Timer modulo 2^25 (R14). -/
def arrivalStamp (now : Time) : BitVec 25 :=
  now.setWidth 25

/-- The packet as it is offered to the Router Queue (R70). -/
def gatePacket (s : State) (n : LaneId) (packet : Vector Byte 188) (mast : Mast) (uncorrectable : Bool)
    (corrected : Fin 9) : Packet where
  bytes := gateBytes packet uncorrectable
  lane := n
  mast := mast
  uncorrectable := uncorrectable
  corrected := corrected
  firstAfterLock := (s.lane n).firstAfterLock
  stamp := arrivalStamp s.time

/-- The lane counters a passed packet moves at the gate (R70). -/
def LaneCounters.pass (c : LaneCounters) (uncorrectable : Bool) (corrected : Fin 9) : LaneCounters :=
  { c with
    uncorrectable := if uncorrectable then satInc c.uncorrectable else c.uncorrectable
    correctedBytes := satAdd c.correctedBytes corrected.val }

/-- A packet joins the Router Queue: it is counted as delivered, and a first-after-lock flag it carries clears the mark (R69, R116). -/
def State.joinRouter (s : State) (n : LaneId) (p : Packet) : State :=
  let t := s.modLane n fun l =>
    { l with firstAfterLock := false, counters := { l.counters with delivered := satInc l.counters.delivered } }
  { t with router := { t.router with queue := t.router.queue ++ [p] } }

/-- A packet meets a full Router Queue: it is dropped and counted, and the first-after-lock mark stays (R69, R116). -/
def State.dropAtRouter (s : State) (n : LaneId) : State :=
  let t := s.modLane n fun l =>
    { l with counters := { l.counters with routerDrops := satInc l.counters.routerDrops } }
  { t with router := { t.router with drops := satInc t.router.drops } }

/-- A passed packet is offered to the Router Queue, which holds at most 24 (R116). -/
def State.offerToRouter (s : State) (n : LaneId) (p : Packet) : State :=
  if s.router.queue.length < Config.routerCapacity then s.joinRouter n p else s.dropAtRouter n

/-- PACKET_GATE (R70). The core delivers no packet in OFF and SEEK (R26, R50). -/
def execPacketGate (n : LaneId) (packet : Vector Byte 188) (mast : Mast) (uncorrectable : Bool) (corrected : Fin 9)
    (s : State) : Host.Outcome State Fault Refusal :=
  match (s.lane n).phase with
  | .off => .next s
  | .seek => .next s
  | .track =>
    .next (s.modLane n fun l =>
      { l with counters := { l.counters with preLockDiscards := satInc l.counters.preLockDiscards } })
  | .lock =>
    .next ((s.modLane n fun l => { l with counters := l.counters.pass uncorrectable corrected }).offerToRouter n
      (gatePacket s n packet mast uncorrectable corrected))
  | .fade =>
    .next ((s.modLane n fun l => { l with counters := l.counters.pass uncorrectable corrected }).offerToRouter n
      (gatePacket s n packet mast uncorrectable corrected))

end Sys2Proof.Machine
end

