-- ==== Sys2Proof/Machine/Completion.lean ====
section
/-! DEFINITION. How a transfer ends (R158, R164 to R166): the port becomes free, an accepted write has reached the link, an error is
counted and recorded, and a transfer that a soft reset abandoned is handed to no requester. -/

namespace Sys2Proof.Machine

/-- The end of a read on the link. `error` says that it ended with READ_ERROR (R164, R165). -/
def State.endRead (s : State) (t : Transfer) (error : Bool) (who : FaultRequester) : State :=
  if error && !t.abandoned then s.freePort.linkError .readError who t.address else s.freePort

/-- The end of a write on the link: accepted, or with WRITE_ERROR (R164, R165). -/
def State.endWrite (s : State) (t : Transfer) (result : WriteResult) (who : FaultRequester) : State :=
  match result with
  | .accepted => s.freePort.accept t
  | .error => if t.abandoned then s.freePort else s.freePort.linkError .writeError who t.address

end Sys2Proof.Machine
end

