-- ==== Sys2Proof/Machine/Staging.lean ====
section
/-! DEFINITION. Channel plan staging (chapter 6): the examination of a Lane Slot, refusal, acceptance and supersession, and the
write-back of the answers. -/

namespace Sys2Proof.Machine

/-- The channel of a plan reaches outside the band 174,000..862,000 kHz (R98, check 3; written without subtraction). -/
def outsideBand (centre bandwidth : Nat) : Bool :=
  decide (centre < Config.bandLow + 500 * bandwidth) || decide (Config.bandHigh < centre + 500 * bandwidth)

/-- Two channels share more than an edge: each low edge lies below the other's high edge (R99; written without subtraction). -/
def channelsShare (c₁ b₁ c₂ b₂ : Nat) : Bool :=
  decide (c₁ < c₂ + 500 * b₂ + 500 * b₁) && decide (c₂ < c₁ + 500 * b₁ + 500 * b₂)

/-- A channel overlaps a plan's channel: they share more than an edge and differ in centre or bandwidth (R99). -/
def overlapsPlan (centre bandwidth : Nat) (p : TunePlan) : Bool :=
  channelsShare centre bandwidth p.centre p.bandwidth && !(centre == p.centre && bandwidth == p.bandwidth)

/-- A channel overlaps one that a lane holds: in its applied TUNE plan or in its pending TUNE plan (R99). -/
def overlapsLane (centre bandwidth : Nat) (l : Lane) : Bool :=
  (match l.applied with
    | none => false
    | some p => overlapsPlan centre bandwidth p)
  || match l.pendingPlan with
    | none => false
    | some (.stop _ _) => false
    | some (.tune _ p _) => overlapsPlan centre bandwidth p

/-- A plan for lane n overlaps a channel held by another lane (R99). -/
def State.overlapsOthers (s : State) (n : LaneId) (centre bandwidth : Nat) : Bool :=
  allLanes.any fun m => m != n && overlapsLane centre bandwidth (s.lane m)

/-- The outcome of the checks of R98: a refusal reason, or the plan as accepted. -/
inductive PlanCheck where
  | refuse (reason : RefusalReason)
  | accept (plan : AcceptedPlan)
deriving DecidableEq, Repr

/-- FIXED n needs entry n usable in the table in force; AUTO always passes (R98, check 4). -/
def modeUsable (modes : ModeTable) : ModePolicy → Bool
  | .auto => true
  | .fixed n => modes[n].isSome

/-- Checks 2 to 5 of R98 on a TUNE, then the clamp of R101. -/
def State.checkTune (s : State) (n : LaneId) (h : SlotHostHalf) : PlanCheck :=
  if !(h.bandwidth == 6 || h.bandwidth == 7 || h.bandwidth == 8) then .refuse .badBandwidth
  else if outsideBand h.centre h.bandwidth then .refuse .freqRange
  else
    match modePolicyOf h.modeCode with
    | none => .refuse .badMode
    | some mode =>
      if !modeUsable s.station.modes mode then .refuse .badMode
      else if s.overlapsOthers n h.centre h.bandwidth then .refuse .overlap
      else .accept (.tune h.tag (h.clamped mode) (h.adjustedMask (h.clamped mode)))

/-- The checks of R98 in order, stopping at the first that fails. -/
def State.checkPlan (s : State) (n : LaneId) (h : SlotHostHalf) : PlanCheck :=
  match h.action with
  | none => .refuse .badAction
  | some .stop => .accept (.stop h.tag h.notify)
  | some .tune => s.checkTune n h

/-- A refusal: the tag is answered and a REFUSED image is owed; nothing changes in the lane (R100). -/
def State.refusePlan (s : State) (n : LaneId) (tag : Tag) (reason : RefusalReason) : State :=
  s.setAnswer n
    { lastAnswered := some tag
      image := { mark := .refused, appliedTag := (s.lane n).appliedTag, reason := reason, adjusted := 0, timeAtTake := s.time }
      owed := true }

/-- The adjusted mask that travels with an accepted plan; a STOP's is 0 (R101). -/
def AcceptedPlan.adjustedMask : AcceptedPlan → BitVec 16
  | .tune _ _ adjusted => adjusted
  | .stop _ _ => 0

/-- A plan becomes the pending plan of a lane in LOCK or FADE, superseding one that waits: window, ACCEPTED image (R102, R103). -/
def State.holdPlan (s : State) (n : LaneId) (plan : AcceptedPlan) : State :=
  let superseded := (s.lane n).pendingPlan.isSome
  let t := s.modLane n fun l =>
    { l with pendingPlan := some plan, applyWindow := some (deadline s.time Config.applyWindowLength) }
  let u : State := { t with fetcher := { t.fetcher with
    superseded := if superseded then satInc t.fetcher.superseded else t.fetcher.superseded } }
  u.setAnswer n
    { u.answer n with
      image := { mark := .accepted, appliedTag := (s.lane n).appliedTag, reason := .none, adjusted := plan.adjustedMask,
                 timeAtTake := (s.answer n).image.timeAtTake }
      owed := true }

/-- An acceptance: the tag is answered, and the plan applies at once or is held, by the lane state (R102). -/
def State.acceptPlan (s : State) (n : LaneId) (tag : Tag) (plan : AcceptedPlan) : State :=
  let t := s.setAnswer n { s.answer n with lastAnswered := some tag }
  if (s.lane n).phase.delivers then t.holdPlan n plan else t.takePlan n plan

/-- The examination of a Lane Slot's data (R95). -/
def State.examineSlot (s : State) (n : LaneId) (slot : Vector Byte 64) : State :=
  let h := hostHalf slot
  if s.link.device ≠ .running then s
  else if !h.staged then s
  else if (s.answer n).lastAnswered = some h.tag then s
  else
    match s.checkPlan n h with
    | .refuse reason => s.refusePlan n h.tag reason
    | .accept plan => s.acceptPlan n h.tag plan

/-- The item in hand is complete (R172). -/
def State.dropItem (s : State) : State :=
  { s with fetcher := { s.fetcher with item := none } }

/-- LANE_SLOT_READ_COMPLETE (R95): after a READ_ERROR the item is abandoned and the lane is unchanged (R97). -/
def execLaneSlotReadComplete (result : ReadResult 64) (s : State) : Host.Outcome State Fault Refusal :=
  match s.arbiter.port with
  | none => .next s
  | some t =>
    match t.kind with
    | .laneSlotRead n =>
      let u := s.endRead t (result == .error) .planFetcher
      if t.abandoned then .next u
      else
        match result with
        | .error => .next u.dropItem.settle
        | .data slot => .next (u.dropItem.examineSlot n slot).settle
    | _ => .next s

/-- LANE_SLOT_WRITE_BACK_COMPLETE (R112, R113): an accepted TAKEN or REFUSED answer raises PLAN; a failed one is not repeated. -/
def execLaneSlotWriteBackComplete (result : WriteResult) (s : State) : Host.Outcome State Fault Refusal :=
  match s.arbiter.port with
  | none => .next s
  | some t =>
    match t.kind with
    | .laneSlotWriteBack _ mark =>
      let u := s.endWrite t result .planFetcher
      if t.abandoned then .next u
      else .next (u.raiseIf (result == .accepted && mark != .accepted) .plan).settle
    | _ => .next s

end Sys2Proof.Machine
end

