-- ==== Sys2Proof/Machine/Router.lean ====
section
/-! DEFINITION. The Packet Router (chapter 7): matching, withholding, continuity, the offers to the Stream FIFOs (R143), the swap and
the loading of the Filter Table. -/

namespace Sys2Proof.Machine

/-! ### Matching (R120, R121, R126) -/

/-- The entry's window: 2^e PIDs from the aligned base (R120). -/
def FilterEntry.windowContains (e : FilterEntry) (pid : Nat) : Bool :=
  decide (e.base ≤ pid) && decide (pid < e.base + 2 ^ e.exponent)

/-- A valid entry matches a packet of a lane of its mask with a PID in its window (R121). -/
def FilterEntry.accepts (e : FilterEntry) (p : Packet) : Bool :=
  e.lanes.getLsbD p.lane.val && e.windowContains (packetPid p.bytes)

/-- The number of lanes in a lane mask. -/
def laneCount (mask : BitVec 12) : Nat :=
  (allLanes.filter fun n => mask.getLsbD n.val).length

/-- A checking entry: check-continuity set, one PID, exactly one lane (R126). -/
def FilterEntry.isChecking (e : FilterEntry) : Bool :=
  e.checkContinuity && e.exponent == 0 && laneCount e.lanes == 1

/-- The entry at one position matches the packet; one that is not valid does not. -/
def entryMatches (p : Packet) (entry : Option FilterEntry) : Bool :=
  match entry with
  | none => false
  | some e => e.accepts p

/-- The matching entries of a table. -/
def matching (table : FilterTable) (p : Packet) : List FilterEntry :=
  (table.toList.filter (entryMatches p)).filterMap id

/-! ### Continuity (R126 to R129) -/

/-- Whether the entry at one position is a checking entry of a lane. -/
def checksLane (n : LaneId) (entry : Option FilterEntry) : Bool :=
  match entry with
  | none => false
  | some e => e.isChecking && e.lanes.getLsbD n.val

/-- A first-after-lock packet sets to none the baselines of its lane's checking entries (R127). -/
def resetBaselines (table : FilterTable) (p : Packet) (baselines : Vector (Option (BitVec 4)) 256) :
    Vector (Option (BitVec 4)) 256 :=
  if p.firstAfterLock then Vec.zipWith (fun e b => if checksLane p.lane e then none else b) table baselines else baselines

/-- The outcome of one continuity check (R128). -/
inductive Continuity where
  | unchecked
  | started
  | inSequence
  | isRepeat
  | isBreak
deriving DecidableEq, Repr

/-- The check of continuity number c against a baseline (R128). -/
def continuityOutcome (baseline : Option (BitVec 4)) (c : BitVec 4) : Continuity :=
  match baseline with
  | none => .started
  | some b => if c = b + 1 then .inSequence else if c = b then .isRepeat else .isBreak

/-- A packet is checked when it is correctable and has payload (R128). -/
def qualifies (p : Packet) : Bool :=
  !p.uncorrectable && packetHasPayload p.bytes

/-- What one entry's check of the packet gives. -/
def entryOutcome (p : Packet) (entry : Option FilterEntry) (baseline : Option (BitVec 4)) : Continuity :=
  match entry with
  | none => .unchecked
  | some e =>
    if e.isChecking && e.accepts p && qualifies p then continuityOutcome baseline (packetContinuity p.bytes) else .unchecked

/-- The baseline after a check: a repeat leaves it, which is also the packet's number; an unchecked packet leaves it (R128). -/
def nextBaseline (p : Packet) (entry : Option FilterEntry) (baseline : Option (BitVec 4)) : Option (BitVec 4) :=
  if entryOutcome p entry baseline = .unchecked then baseline else some (packetContinuity p.bytes)

/-- The outcomes of all entries for a packet. -/
def outcomes (table : FilterTable) (baselines : Vector (Option (BitVec 4)) 256) (p : Packet) : List Continuity :=
  List.zipWith (entryOutcome p) table.toList baselines.toList

/-! ### Offers (R122 to R125, R143) -/

/-- The slot offered from a packet (R125). -/
def slotOf (p : Packet) (continuityBreak : Bool) : Slot where
  lane := p.lane
  mast := p.mast
  uncorrectable := p.uncorrectable
  continuityBreak := continuityBreak
  stamp := p.stamp
  bytes := p.bytes

/-- A Stream Writer takes an offered slot at once, by its state (R143). DEDUCED: the drop by itself makes no write-back owed, since the list of
R154 has none; in STOPPING `State.oweFinalCounts` does (log entry 31). -/
def StreamWriter.takeOffer (w : StreamWriter) (slot : Slot) : StreamWriter :=
  match w.phase with
  | .opened =>
    if w.fifo.length < Config.fifoCapacity then { w with fifo := w.fifo ++ [slot] }
    else { w with counters := { w.counters with droppedFifo := satInc w.counters.droppedFifo } }
  | .starved => { w with counters := { w.counters with droppedStarved := satInc w.counters.droppedStarved } }
  | .closed => { w with counters := { w.counters with droppedClosed := satInc w.counters.droppedClosed } }
  | .closing => { w with counters := { w.counters with droppedClosed := satInc w.counters.droppedClosed } }
  | .halted => { w with counters := { w.counters with droppedClosed := satInc w.counters.droppedClosed } }

/-- A packet withheld from a stream is counted, whatever the stream's state (R123). As a drop does, it owes no write-back by itself (log entry
31). -/
def StreamWriter.withhold (w : StreamWriter) : StreamWriter :=
  { w with counters := { w.counters with withheld := satInc w.counters.withheld } }

/-- What a packet's routing does at one stream: nothing when no matching entry names it; withheld when it is uncorrectable and one of
those entries has drop-errored set; else one slot offered (R122, R123, R125). -/
def StreamWriter.receive (w : StreamWriter) (n : StreamId) (found : List FilterEntry) (slot : Slot) : StreamWriter :=
  let naming := found.filter fun e => e.target == n
  if naming.isEmpty then w
  else if slot.uncorrectable && naming.any FilterEntry.dropErrored then w.withhold
  else w.takeOffer slot

/-- The offers of one packet to all streams; each reaches a different Stream FIFO, so their order does not matter (R122). -/
def offerToStreams (streams : Vector StreamWriter 16) (found : List FilterEntry) (slot : Slot) : Vector StreamWriter 16 :=
  Vec.mapIdx (fun i w => w.receive (Fin.ofNat 16 i) found slot) streams

/-- A count increased by how often an outcome came (R128). -/
def countOutcome (c : Counter) (what : Continuity) (all : List Continuity) : Counter :=
  satAdd c (all.count what)

/-- The routing of one packet under the active table, as one operation (R117). -/
def State.route (s : State) (p : Packet) : State :=
  let r := s.router
  let fresh := resetBaselines r.active p r.baselines
  let all := outcomes r.active fresh p
  let found := matching r.active p
  { s with
    streams := offerToStreams s.streams found (slotOf p (all.contains .isBreak))
    router := { r with
      baselines := Vec.zipWith (nextBaseline p) r.active fresh
      breaks := countOutcome r.breaks .isBreak all
      repeats := countOutcome r.repeats .isRepeat all
      unmatched := if found.isEmpty then satInc r.unmatched else r.unmatched } }

/-- The head packet leaves the Router Queue and becomes the packet in hand (R117). -/
def State.takeHead (s : State) (p : Packet) (rest : List Packet) : State :=
  { s with router := { s.router with queue := rest, inHand := some p } }

/-- The end of a routing: no packet in hand (R117). -/
def State.endRouting (s : State) : State :=
  { s with router := { s.router with inHand := none } }

/-- A stream in CLOSED or HALTED owes its write-back when the one issued last does not carry its counters (R156). -/
def StreamWriter.oweFinalCounts (w : StreamWriter) : StreamWriter :=
  if (w.phase == .closed || w.phase == .halted) && w.counters != w.reported then { w with owed := true } else w

/-- In STOPPING every stream's final counters come to stand in its write-back (R156). DEDUCED: a stream in CLOSED or HALTED owes one for them as
soon as they differ from those of its last one (log entry 31). -/
def State.oweFinalCounts (s : State) : State :=
  match s.link.device with
  | .stopping => { s with streams := Vec.map StreamWriter.oweFinalCounts s.streams }
  | .idle => s
  | .loading => s
  | .running => s
  | .faulted => s

/-- A shadow waits to be swapped in (R132). -/
def Shadow.isReady : Shadow → Bool
  | .none => false
  | .filling _ _ _ => false
  | .ready _ => true

/-- ROUTE_PACKET (R117); in STOPPING a stream at rest that has counted the packet owes its write-back (R156). With an empty Router Queue there is nothing to take, and while a shadow is ready the Router swaps it in before it
takes the next packet (R132). -/
def execRoutePacket (s : State) : Host.Outcome State Fault Refusal :=
  match s.router.inHand, s.router.queue with
  | some _, _ => .next s
  | none, [] => .next s
  | none, p :: rest =>
    if s.router.shadow.isReady then .next s else .next ((s.takeHead p rest).route p).endRouting.oweFinalCounts.settle

/-! ### The swap (R132, R133) -/

/-- The baseline of a new entry: kept from an identical predecessor of a checking entry, else none (R133). -/
def carryBaseline (new : Option FilterEntry) (old : Option FilterEntry) (baseline : Option (BitVec 4)) : Option (BitVec 4) :=
  match new with
  | none => none
  | some e => if e.isChecking && old == some e then baseline else none

/-- The swap: the shadow becomes the active table, the version increases, FILTER is raised, the FILTER item is complete (R132). -/
def State.swapTable (s : State) (entries : FilterTable) : State :=
  let r := s.router
  let kept := Vec.zipWith (fun new (p : Option FilterEntry × Option (BitVec 4)) => carryBaseline new p.1 p.2) entries
    (Vec.zipWith Prod.mk r.active r.baselines)
  State.raise (State.dropItem
    { s with router := { r with active := entries, version := r.version + 1, shadow := .none, baselines := kept } }) .filter

/-- FILTER_SWAP (R132). Without a ready shadow, or with a packet in hand, there is no swap. -/
def execFilterSwap (s : State) : Host.Outcome State Fault Refusal :=
  match s.router.shadow, s.router.inHand with
  | .ready entries, none => .next (s.swapTable entries).settle
  | _, _ => .next s

/-! ### Loading the table (R130, R131, R134, R135) -/

/-- Put a new shadow. -/
def State.setShadow (s : State) (sh : Shadow) : State :=
  { s with router := { s.router with shadow := sh } }

/-- The 32 converted entries of block j put at their own positions (R130). -/
def placeBlock (entries : FilterTable) (j : Fin 8) (block : Vector Byte 256) : FilterTable :=
  Vec.mapIdx (fun i old => if i / 32 = j.val then filterEntryAt block (8 * (i % 32)) else old) entries

/-- A load is abandoned: the shadow becomes none and the item is over (R134, R135). -/
def State.abandonLoad (s : State) : State :=
  (s.setShadow .none).dropItem

/-- A block's data while the shadow is being filled: discarded at a waiting restart (R131), else placed, and after block 7 the shadow is
ready (R130). -/
def State.takeBlock (s : State) (j : Fin 8) (block : Vector Byte 256) : State :=
  match s.router.shadow with
  | .none => s
  | .ready _ => s
  | .filling entries _ true => s.setShadow (.filling entries 0 false)
  | .filling entries _ false =>
    if j = 7 then s.setShadow (.ready (placeBlock entries j block))
    else s.setShadow (.filling (placeBlock entries j block) (j + 1) false)

/-- A restart waits for the read in flight (R131). -/
def Shadow.restarts : Shadow → Bool
  | .none => false
  | .ready _ => false
  | .filling _ _ restart => restart

/-- A read of the load failed: FILTER is raised, the load abandoned, and a FILTER write that waited for a restart is kept in the
pending set (R134). -/
def State.failLoad (s : State) : State :=
  let waiting := s.router.shadow.restarts
  let t := s.abandonLoad.raise .filter
  { t with fetcher := { t.fetcher with pendingSet := { t.fetcher.pendingSet with
      filter := t.fetcher.pendingSet.filter || waiting } } }

/-- FILTER_BLOCK_READ_COMPLETE (R130). A load that the start of STOPPING abandoned ends here, with no FILTER notice (R135). -/
def execFilterBlockReadComplete (result : ReadResult 256) (s : State) : Host.Outcome State Fault Refusal :=
  match s.arbiter.port with
  | none => .next s
  | some t =>
    match t.kind with
    | .filterBlockRead j =>
      let u := s.endRead t (result == .error) .planFetcher
      if t.abandoned then .next u
      else if s.link.device ≠ .running then .next u.abandonLoad.settle
      else
        match result with
        | .error => .next u.failLoad.settle
        | .data block => .next (u.takeBlock j block).settle
    | _ => .next s

/-- The item of an Attention bit joins the pending set (R172). -/
def State.addFilterItem (s : State) : State :=
  { s with fetcher := { s.fetcher with pendingSet := { s.fetcher.pendingSet with filter := true } } }

/-- A read of the Filter Table is in flight for its load. -/
def State.blockInFlight (s : State) : Bool :=
  match s.inFlight with
  | some (.filterBlockRead _) => true
  | _ => false

/-- A FILTER bit: while the shadow is being filled it restarts the load, at the completion of the read in flight or at once when none is;
else the item joins the pending set (R131, R172). -/
def State.nameFilter (s : State) : State :=
  match s.router.shadow with
  | .none => s.addFilterItem
  | .ready _ => s.addFilterItem
  | .filling entries next _ =>
    if s.blockInFlight then s.setShadow (.filling entries next true) else s.setShadow (.filling entries 0 false)

end Sys2Proof.Machine
end

