-- ==== Sys2Proof/Machine/Streams.lean ====
section
/-! DEFINITION. The Stream Writers (chapter 8): fetches, the walk along a chain, slot writes, closes, starvation, the drain, faults. What a
Writer does to itself is a function on `StreamWriter`; the notices it raises are given beside it. -/

namespace Sys2Proof.Machine

/-! ### Changes of state and of the chain position -/

/-- A change of the stream state makes the write-back owed (R154). -/
def StreamWriter.enter (w : StreamWriter) (phase : StreamPhase) : StreamWriter :=
  { w with phase := phase, owed := true }

/-- The Writer reads the record at A: a class-1 read is to be made, and the current record address becomes A (R141, R148). -/
def StreamWriter.readRecord (w : StreamWriter) (a : Addr) : StreamWriter :=
  { w with job := .read a, currentRecord := a, owed := true }

/-- The chain position becomes reading at A (R141). -/
def StreamWriter.moveTo (w : StreamWriter) (a : Addr) : StreamWriter :=
  { w.readRecord a with position := .readingAt a }

/-- Entry to CLOSED (R150): no position, the flush timer stopped, the write-back owed; the current record address keeps its value. -/
def StreamWriter.enterClosed (w : StreamWriter) : StreamWriter :=
  { w.enter .closed with
    position := .none, current := none, flushTimer := none, flushWaits := false, job := .none, recheck := none }

/-- A count increased by the number of slots removed from the FIFO. -/
def countRemoved (c : Counter) (fifo : List Slot) : Counter :=
  satAdd c fifo.length

/-- Starved while draining: the FIFO's slots are removed as dropped-starved and the stream enters CLOSED (R150). -/
def StreamWriter.starveDrain (w : StreamWriter) : StreamWriter :=
  StreamWriter.enterClosed
    { w with fifo := [], counters := { w.counters with droppedStarved := countRemoved w.counters.droppedStarved w.fifo } }

/-- Entry to HALTED (R153): the FIFO's slots are removed as dropped-fault; no buffer, no position, no timer. -/
def StreamWriter.enterHalted (w : StreamWriter) : StreamWriter :=
  { w.enter .halted with
    fifo := []
    counters := { w.counters with droppedFault := countRemoved w.counters.droppedFault w.fifo }
    position := .none, current := none, flushTimer := none, flushWaits := false, job := .none, recheck := none }

/-- Entry to STARVED waiting on A (R147). -/
def StreamWriter.starveOn (w : StreamWriter) (a : Addr) : StreamWriter :=
  { w.enter .starved with position := .waitingOn a, job := .none }

/-- Entry to STARVED waiting at end-of-chain; the current record address becomes 0 (R147). -/
def StreamWriter.starveAtEnd (w : StreamWriter) : StreamWriter :=
  { w.enter .starved with position := .waitingAtEnd, job := .none, currentRecord := 0 }

/-! ### Closing a buffer (R145, R146) -/

/-- The start of a close of the buffer described: the flush timer is cancelled, the closing fields are to be written. In OPEN and CLOSING the
chain position becomes closing a buffer; a check in STARVED keeps its waiting position (R137, R145, log entry 8). -/
def StreamWriter.beginClose (w : StreamWriter) (c : BufferClose) : StreamWriter :=
  { w with
    flushTimer := none, flushWaits := false
    position := if w.phase == .starved then w.position else .closingBuffer
    job := .closingFields c }

/-- The close of a held buffer for a reason. -/
def HeldBuffer.closeFor (b : HeldBuffer) (reason : CloseReason) : BufferClose where
  address := b.address
  nextRecord := b.nextRecord
  filled := b.filled
  stamp := b.stamp
  reason := reason

/-- The close of a bad record: filled count 0, first-slot stamp 0, reason FAULT (R141). -/
def badRecordClose (a next : Addr) : BufferClose where
  address := a
  nextRecord := next
  filled := 0
  stamp := none
  reason := .fault

/-- The close of the current buffer, if there is one. -/
def StreamWriter.closeCurrent (w : StreamWriter) (reason : CloseReason) : StreamWriter :=
  match w.current with
  | none => w
  | some b => w.beginClose (b.closeFor reason)

/-- A CLOSING stream that holds its buffer with nothing left to write ends it: by a close with reason CLOSE, or by writing EMPTY
back when no slot was written (R145, R150). -/
def StreamWriter.drain (w : StreamWriter) : StreamWriter :=
  if w.phase == .closing && w.position == .holding && w.fifo.isEmpty && w.inFlight.isNone && w.job == .none then
    match w.current with
    | none => w
    | some b => if b.filled = 0 then { w with job := .emptyMark b.address } else w.beginClose (b.closeFor .close)
  else w

/-! ### Moving on along the chain -/

/-- OPEN moves on to the next record address, or starves at end-of-chain (R147). -/
def StreamWriter.moveOnOpen (w : StreamWriter) (next : Addr) : StreamWriter :=
  if next = 0 then w.starveAtEnd else w.moveTo next

/-- CLOSING, between buffers: with slots left it moves on, else the stream enters CLOSED (R150). -/
def StreamWriter.moveOnClosing (w : StreamWriter) (next : Addr) : StreamWriter :=
  let between := { w with position := .betweenBuffers, job := .none }
  if between.fifo.isEmpty then between.enterClosed
  else if next = 0 then between.starveDrain
  else between.moveTo next

/-- A check in STARVED starts on the record waited on, or at end-of-chain on the record at the fetch's head address; with head address 0
the stream stays as it is (R148). -/
def StreamWriter.startCheck (w : StreamWriter) (head : Addr) : StreamWriter :=
  match w.position with
  | .waitingOn a => w.readRecord a
  | .waitingAtEnd => if head = 0 then w else w.readRecord head
  | .none => w
  | .holding => w
  | .closingBuffer => w
  | .readingAt _ => w
  | .betweenBuffers => w

/-- The end of a check that leaves the stream in STARVED: the Writer checks once more for an OPEN fetch that came meanwhile (R148). -/
def StreamWriter.endCheck (w : StreamWriter) : StreamWriter :=
  match w.recheck with
  | none => { w with job := .none }
  | some head => ({ w with job := .none, recheck := none } : StreamWriter).startCheck head

/-- STARVED moves on from a bad record under SKIP: it waits at end-of-chain, or checks the next record (R148). DESIGN CHOICE: the read of the next
record belongs to the check that found the bad one, so that it is not yet the check once more of a fetch that came meanwhile; that one
is made when the whole walk has ended with the stream still STARVED (log entry 38). -/
def StreamWriter.moveOnStarved (w : StreamWriter) (next : Addr) : StreamWriter :=
  if next = 0 then { w with position := .waitingAtEnd, currentRecord := 0, owed := true }.endCheck else w.readRecord next

/-- After a completed close the Writer moves on by the stream state (R146, R147, R148, R150). -/
def StreamWriter.moveOn (w : StreamWriter) (next : Addr) : StreamWriter :=
  match w.phase with
  | .opened => w.moveOnOpen next
  | .closing => w.moveOnClosing next
  | .starved => w.moveOnStarved next
  | .closed => w
  | .halted => w

/-! ### Fetches (R139) -/

/-- The four fields a fetch replaces (R139). -/
def StreamWriter.setFields (w : StreamWriter) (f : StreamFetch) : StreamWriter :=
  { w with priority := f.priority, faultPolicy := f.faultPolicy, flushInterval := f.flushInterval, notifyOnClose := f.notifyOnClose }

/-- A stream opens from CLOSED (R139). With head address 0 it starves at end-of-chain at once (current record address: log entry 7). -/
def StreamWriter.openAt (w : StreamWriter) (f : StreamFetch) : StreamWriter :=
  let fresh := { w.setFields f with counters := .zero, sequence := 0 }.enter .opened
  if f.head = 0 then fresh.starveAtEnd else fresh.moveTo f.head

/-- CLOSING has no waiting position: a STARVED stream with a check in flight is reading its record, or closing a bad one (R137,
R150). -/
def StreamWriter.closingPosition (w : StreamWriter) : ChainPosition :=
  match w.job with
  | .read a => .readingAt a
  | .filling b => .readingAt b.address
  | .closingFields _ => .closingBuffer
  | .mark _ => .closingBuffer
  | .emptyMark _ => w.position
  | .none => w.position

/-- CLOSE taken in STARVED (R150): a check in flight is the single check; else an empty FIFO closes at once and a non-empty one has the record
checked once. At end-of-chain with head address 0 there is no record to check and the drain starves. DEDUCED: a bad record found by that check
is closed by the row of R150's table (log entry 30). DESIGN CHOICE: a check whose read still waits in the Record Queue counts as in flight
(log entry 34). -/
def StreamWriter.closeStarved (w : StreamWriter) (head : Addr) : StreamWriter :=
  if w.job != .none then { w.enter .closing with position := w.closingPosition, recheck := none }
  else if w.fifo.isEmpty then w.enterClosed
  else
    match w.position with
    | .waitingOn a => (w.enter .closing).moveTo a
    | .waitingAtEnd => if head = 0 then w.starveDrain else (w.enter .closing).moveTo head
    | .none => w.starveDrain
    | .holding => w.starveDrain
    | .closingBuffer => w.starveDrain
    | .readingAt _ => w.starveDrain
    | .betweenBuffers => w.starveDrain

/-- A request CLOSE, by the stream state (R139, R149, R150). -/
def StreamWriter.requestClose (w : StreamWriter) (head : Addr) : StreamWriter :=
  match w.phase with
  | .closed => w
  | .opened => (w.enter .closing).drain
  | .starved => w.closeStarved head
  | .closing => w
  | .halted => w.enterClosed

/-- A request OPEN, by the stream state (R139, R148). DESIGN CHOICE: in STARVED a check whose read still waits in the Record Queue counts as in
flight, so that one more is made after it for this fetch (log entry 34). -/
def StreamWriter.requestOpen (w : StreamWriter) (f : StreamFetch) : StreamWriter :=
  match w.phase with
  | .closed => w.openAt f
  | .opened => w.setFields f
  | .starved =>
    if w.job != .none then { w.setFields f with recheck := some f.head } else (w.setFields f).startCheck f.head
  | .closing => w
  | .halted => w

/-- A fetch, whatever its outcome, makes the write-back owed (R139, R154). -/
def StreamWriter.fetch (w : StreamWriter) (f : StreamFetch) : StreamWriter :=
  let t := if f.isOpen then w.requestOpen f else w.requestClose f.head
  { t with owed := true }

/-- The stream enters STARVED in this change (R147, R176). -/
def entersStarved (before after : StreamWriter) : Bool :=
  before.phase != .starved && after.phase == .starved

/-- A fetch at Stream Writer n; opening an empty chain enters STARVED and raises STREAM (R139). -/
def State.fetchStream (s : State) (n : StreamId) (f : StreamFetch) : State :=
  let before := s.stream n
  let after := before.fetch f
  (s.setStream n after).raiseIf (entersStarved before after) .stream

/-- STREAM_RECORD_READ_COMPLETE (R138): after a READ_ERROR the item is abandoned, and outside RUNNING the data is discarded. -/
def execStreamRecordReadComplete (result : ReadResult 64) (s : State) : Host.Outcome State Fault Refusal :=
  match s.arbiter.port with
  | none => .next s
  | some t =>
    match t.kind with
    | .streamRecordRead n =>
      let u := s.endRead t (result == .error) .planFetcher
      if t.abandoned then .next u
      else
        match result with
        | .error => .next u.dropItem.settle
        | .data record =>
          if s.link.device = .running then .next (u.dropItem.fetchStream n (streamFetch record)).settle
          else .next u.dropItem.settle
    | _ => .next s

/-! ### Link errors on Buffer Record transfers (R152) -/

/-- A stream enters HALTED and STREAM is raised (R153). -/
def State.haltStream (s : State) (n : StreamId) : State :=
  (s.modStream n StreamWriter.enterHalted).raise .stream

/-! ### Reading a Buffer Record (R141, R148, R150) -/

/-- A held buffer for a record taken at A (R140). -/
def BufferRecord.hold (r : BufferRecord) (a : Addr) : HeldBuffer where
  address := a
  dataArea := r.dataArea
  capacity := r.capacity
  nextRecord := r.nextRecord
  filled := 0
  stamp := none

/-- A record whose mark is not EMPTY is not taken: OPEN starves on it, CLOSING has starved while draining, STARVED waits on it (R141,
R147, R148, R150). -/
def StreamWriter.recordNotEmpty (w : StreamWriter) (a : Addr) : StreamWriter :=
  match w.phase with
  | .opened => w.starveOn a
  | .closing => w.starveDrain
  | .starved => { w with position := .waitingOn a }.endCheck
  | .closed => w
  | .halted => w

/-- A Buffer Record read at A, by its data (R141). In CLOSING with an empty FIFO it is not taken whatever its mark (R150). -/
def StreamWriter.takeRecord (w : StreamWriter) (a : Addr) (r : BufferRecord) : StreamWriter :=
  if w.phase == .closing && w.fifo.isEmpty then w.enterClosed
  else if !r.isEmpty then w.recordNotEmpty a
  else if r.capacity = 0 then w.beginClose (badRecordClose a r.nextRecord)
  else { w with job := .filling (r.hold a) }

/-- BUFFER_RECORD_READ_COMPLETE (R141); a READ_ERROR halts the stream (R152). -/
def execBufferRecordReadComplete (result : ReadResult 32) (s : State) : Host.Outcome State Fault Refusal :=
  match s.arbiter.port with
  | none => .next s
  | some t =>
    match t.kind with
    | .bufferRecordRead n =>
      let u := s.endRead t (result == .error) (.stream n)
      if t.abandoned then .next u
      else
        match result with
        | .error => .next (u.haltStream n).settle
        | .data bytes =>
          match (u.stream n).job with
          | .read a =>
            let after := (u.stream n).takeRecord a (bufferRecord bytes)
            .next ((u.setStream n after).raiseIf (entersStarved (u.stream n) after) .stream).settle
          | _ => .next u.settle
    | _ => .next s

/-- The FILLING mark is written: the record is the current buffer and the position holding; a STARVED stream enters OPEN, and a CLOSING one
drains (R141, R148, R150). -/
def StreamWriter.holdBuffer (w : StreamWriter) (b : HeldBuffer) : StreamWriter :=
  let held := { w with current := some b, position := .holding, job := .none, recheck := none }
  match w.phase with
  | .starved => held.enter .opened
  | .opened => held
  | .closing => held.drain
  | .closed => held
  | .halted => held

/-- FILLING_WRITE_COMPLETE (R141); a WRITE_ERROR halts the stream (R152). -/
def execFillingWriteComplete (result : WriteResult) (s : State) : Host.Outcome State Fault Refusal :=
  match s.arbiter.port with
  | none => .next s
  | some t =>
    match t.kind with
    | .fillingWrite n =>
      let u := s.endWrite t result (.stream n)
      if t.abandoned then .next u
      else
        match result, (u.stream n).job with
        | .error, _ => .next (u.haltStream n).settle
        | .accepted, .filling b => .next (u.setStream n ((u.stream n).holdBuffer b)).settle
        | .accepted, _ => .next u.settle
    | _ => .next s

/-! ### Slot writes (R144, R145, R151) -/

/-- The current buffer with one more slot written; the first one takes the first-slot stamp (R144). -/
def HeldBuffer.fill (b : HeldBuffer) (now : Time) : HeldBuffer :=
  { b with filled := b.filled + 1, stamp := if b.filled = 0 then some now else b.stamp }

/-- The flush timer after a slot write: started by the first slot of a buffer unless the interval is 0 (R144). -/
def StreamWriter.flushAfter (w : StreamWriter) (b : HeldBuffer) (now : Time) : Timer :=
  if b.filled = 0 && w.flushInterval != 0 then some (deadline now (w.flushInterval * Config.oneMillisecond)) else w.flushTimer

/-- A slot write into the current buffer b is accepted (R144): counts, stamp, flush timer; then a CAPACITY close, or a FLUSH close that
waited, or, in CLOSING, the end of the drain (R145). -/
def StreamWriter.slotWritten (w : StreamWriter) (b : HeldBuffer) (now : Time) : StreamWriter :=
  let t := { w with
    inFlight := none
    counters := { w.counters with slotsWritten := satInc w.counters.slotsWritten }
    current := some (b.fill now)
    flushTimer := w.flushAfter b now }
  if b.capacity ≤ b.filled + 1 then t.closeCurrent .capacity
  else if w.flushWaits then t.closeCurrent .flush
  else t.drain

/-- A slot write fails (R151): the slot is counted as dropped-fault and the buffer closes with reason FAULT. -/
def StreamWriter.slotFailed (w : StreamWriter) : StreamWriter :=
  StreamWriter.closeCurrent
    { w with inFlight := none, counters := { w.counters with droppedFault := satInc w.counters.droppedFault } } .fault

/-- SLOT_WRITE_COMPLETE (R144, R151). -/
def execSlotWriteComplete (result : WriteResult) (s : State) : Host.Outcome State Fault Refusal :=
  match s.arbiter.port with
  | none => .next s
  | some t =>
    match t.kind with
    | .slotWrite n =>
      let u := s.endWrite t result (.stream n)
      if t.abandoned then .next u
      else
        match result, (u.stream n).current with
        | .error, _ => .next (u.modStream n StreamWriter.slotFailed).settle
        | .accepted, some b => .next (u.setStream n ((u.stream n).slotWritten b s.time)).settle
        | .accepted, none => .next u.settle
    | _ => .next s

/-- FLUSH_TIMER_EXPIRY (R145): the buffer closes with reason FLUSH, at once or when the slot write in flight completes. It arises only at the
timer's deadline (R13). -/
def execFlushTimerExpiry (n : StreamId) (s : State) : Host.Outcome State Fault Refusal :=
  let w := s.stream n
  if expiresAt w.flushTimer s.time then
    let stopped := { w with flushTimer := none }
    if w.inFlight.isSome then .next (s.setStream n { stopped with flushWaits := true })
    else .next (s.setStream n (stopped.closeCurrent .flush)).settle
  else .next s

/-! ### The two writes of a close (R146) -/

/-- CLOSING_FIELDS_WRITE_COMPLETE (R146): the mark write follows; a WRITE_ERROR halts the stream (R152). -/
def execClosingFieldsWriteComplete (result : WriteResult) (s : State) : Host.Outcome State Fault Refusal :=
  match s.arbiter.port with
  | none => .next s
  | some t =>
    match t.kind with
    | .closingFieldsWrite n =>
      let u := s.endWrite t result (.stream n)
      if t.abandoned then .next u
      else
        match result, (u.stream n).job with
        | .error, _ => .next (u.haltStream n).settle
        | .accepted, .closingFields c => .next (u.modStream n fun w => { w with job := .mark c }).settle
        | .accepted, _ => .next u.settle
    | _ => .next s

/-- The counts of a completed close, the current buffer gone and the write-back owed (R146, steps 1 and 4). -/
def StreamWriter.closed (w : StreamWriter) : StreamWriter :=
  { w with
    counters := { w.counters with buffersClosed := satInc w.counters.buffersClosed }
    sequence := w.sequence + 1
    current := none
    owed := true
    job := .none }

/-- After a completed close: a FAULT close under HALT halts the stream, any other moves on (R146, R151). -/
def StreamWriter.afterClose (w : StreamWriter) (c : BufferClose) : StreamWriter :=
  if c.reason == .fault && w.faultPolicy == .halt then w.closed.enterHalted else w.closed.moveOn c.nextRecord

/-- The stream enters HALTED in this change (R153, R176). -/
def entersHalted (before after : StreamWriter) : Bool :=
  before.phase != .halted && after.phase == .halted

/-- A completed mark write at Stream Writer n (R146): BUFFER under notify-on-close; STREAM for the mark FAULTED, and at an entry to
STARVED or HALTED. -/
def State.markWritten (s : State) (n : StreamId) (c : BufferClose) : State :=
  let before := s.stream n
  let after := before.afterClose c
  ((s.setStream n after).raiseIf before.notifyOnClose .buffer).raiseIf
    (c.reason == .fault || entersStarved before after || entersHalted before after) .stream

/-- MARK_WRITE_COMPLETE (R146); a WRITE_ERROR halts the stream (R152). -/
def execMarkWriteComplete (result : WriteResult) (s : State) : Host.Outcome State Fault Refusal :=
  match s.arbiter.port with
  | none => .next s
  | some t =>
    match t.kind with
    | .markWrite n =>
      let u := s.endWrite t result (.stream n)
      if t.abandoned then .next u
      else
        match result, (u.stream n).job with
        | .error, _ => .next (u.haltStream n).settle
        | .accepted, .mark c => .next (u.markWritten n c).settle
        | .accepted, _ => .next u.settle
    | _ => .next s

/-- EMPTY_MARK_WRITE_COMPLETE (R150): the stream enters CLOSED; a WRITE_ERROR halts it (R152). -/
def execEmptyMarkWriteComplete (result : WriteResult) (s : State) : Host.Outcome State Fault Refusal :=
  match s.arbiter.port with
  | none => .next s
  | some t =>
    match t.kind with
    | .emptyMarkWrite n =>
      let u := s.endWrite t result (.stream n)
      if t.abandoned then .next u
      else
        match result with
        | .error => .next (u.haltStream n).settle
        | .accepted => .next (u.modStream n StreamWriter.enterClosed).settle
    | _ => .next s

/-- STREAM_WRITE_BACK_COMPLETE (R154): a failed one is not repeated, and the next owed one is written as usual. -/
def execStreamWriteBackComplete (result : WriteResult) (s : State) : Host.Outcome State Fault Refusal :=
  match s.arbiter.port with
  | none => .next s
  | some t =>
    match t.kind with
    | .streamWriteBack n =>
      let u := s.endWrite t result (.stream n)
      if t.abandoned then .next u else .next u.settle
    | _ => .next s

end Sys2Proof.Machine
end

