-- ==== Sys2Proof/Machine/Arbiter.lean ====
section
/-! DEFINITION. The Transfer Arbiter (chapter 9): what each requester transfers at its grant (R159), the withdrawal of a request with
nothing left to transfer, the choice among slot writes (R163), and the grant itself (R161). -/

namespace Sys2Proof.Machine

/-! ### Transfers as they are formed at the grant (R159) -/

/-- A read of `size` bytes. -/
def readOf (kind : TransferKind) (address : Addr) (size : Nat) : Transfer where
  kind := kind
  address := address
  size := size
  data := []
  abandoned := false

/-- A write of `data`. -/
def writeOf (kind : TransferKind) (address : Addr) (data : List Byte) : Transfer where
  kind := kind
  address := address
  size := data.length
  data := data
  abandoned := false

/-- A host address `k` bytes further. -/
def Addr.plus (a : Addr) (k : Nat) : Addr :=
  a + BitVec.ofNat 64 k

/-- The port becomes busy with a transfer (R158). -/
def State.issue (s : State) (t : Transfer) : State :=
  { s with arbiter := { s.arbiter with port := some t } }

/-! ### Plan Fetcher -/

/-- The lowest-numbered lane whose write-back is owed (R111). -/
def State.lowestOwed (s : State) : Option LaneId :=
  allLanes.find? fun n => (s.answer n).owed

/-- The write of lane n's image, bytes 0x30–0x3F of slot n; the owed flag is cleared at the issue (R111). -/
def State.issueWriteBack (s : State) (n : LaneId) : State :=
  let a := s.answer n
  (s.setAnswer n { a with owed := false }).issue
    (writeOf (.laneSlotWriteBack n a.image.mark)
      (s.exchangeAddress (Config.laneSlotOffset + 64 * n.val + 0x30)) a.image.bytes)

/-- The read of the Station Block (R170). -/
def State.issueLoadRead (s : State) : State :=
  State.issue { s with fetcher := { s.fetcher with loadRead := .issued } }
    (readOf .stationBlockRead (s.exchangeAddress Config.stationBlockOffset) 256)

/-- Read j of a Filter Table load (R130). -/
def State.issueBlockRead (s : State) (j : Fin 8) : State :=
  s.issue (readOf (.filterBlockRead j) (s.exchangeAddress (Config.filterTableOffset + 256 * j.val)) 256)

/-- The first item present other than STATUS-NOW: lanes 0 to 11, FILTER, streams 0 to 15 (R172). -/
def PendingSet.first (p : PendingSet) : Option AttentionItem :=
  match allLanes.find? fun n => p.lanes[n] with
  | some n => some (.lane n)
  | none =>
    if p.filter then some .filter
    else
      match allStreams.find? fun n => p.streams[n] with
      | some n => some (.stream n)
      | none => none

/-- The pending set without an item. -/
def PendingSet.remove (p : PendingSet) : AttentionItem → PendingSet
  | .lane n => { p with lanes := p.lanes.set n false }
  | .filter => { p with filter := false }
  | .stream n => { p with streams := p.streams.set n false }

/-- An item leaves the pending set and comes into hand at the grant of its first transfer (R172). -/
def State.takeItem (s : State) (i : AttentionItem) : State :=
  { s with fetcher := { s.fetcher with pendingSet := s.fetcher.pendingSet.remove i, item := some i } }

/-- The first transfer of an item: the slot read (R95), read 0 of a load into a new shadow (R130), or the Stream Record read (R138). -/
def State.issueItem (s : State) (i : AttentionItem) : State :=
  let t := s.takeItem i
  match i with
  | .lane n => t.issue (readOf (.laneSlotRead n) (s.exchangeAddress (Config.laneSlotOffset + 64 * n.val)) 64)
  | .filter => (t.setShadow (.filling (Vector.replicate 256 none) 0 false)).issueBlockRead 0
  | .stream n => t.issue (readOf (.streamRecordRead n) (s.exchangeAddress (Config.streamRecordOffset + 64 * n.val)) 64)

/-- What the Plan Fetcher transfers once no write-back is owed: the Station Block of a load, the next block of a Filter Table load, or
the first pending item (R170, R130, R172); `none` when nothing is left. -/
def State.grantWork (s : State) : Option State :=
  match s.link.device with
  | .loading => if s.fetcher.loadRead == .wanted then some s.issueLoadRead else none
  | .running =>
    match s.router.shadow with
    | .filling _ next _ => some (s.issueBlockRead next)
    | .none => if s.fetcher.item.isSome then none else (s.fetcher.pendingSet.first).map s.issueItem
    | .ready _ => if s.fetcher.item.isSome then none else (s.fetcher.pendingSet.first).map s.issueItem
  | .idle => none
  | .stopping => none
  | .faulted => none

/-- The grant of the Plan Fetcher's request: an owed write-back first (R111, R159). -/
def State.grantFetcher (s : State) : Option State :=
  match s.lowestOwed with
  | some n => some (s.issueWriteBack n)
  | none => s.grantWork

/-! ### Stream Writers -/

/-- The Buffer Record transfer of a job (R141, R146, R150; spans of R181). -/
def jobTransfer (n : StreamId) (sequence : Counter) : RecordJob → Option Transfer
  | .none => none
  | .read a => some (readOf (.bufferRecordRead n) a 32)
  | .filling b => some (writeOf (.fillingWrite n) (Addr.plus b.address 0x1F) (leBytes 1 fillingCode))
  | .closingFields c => some (writeOf (.closingFieldsWrite n) (Addr.plus c.address 0x12) (c.fieldBytes sequence))
  | .mark c => some (writeOf (.markWrite n) (Addr.plus c.address 0x1F) (leBytes 1 c.reason.markCode))
  | .emptyMark a => some (writeOf (.emptyMarkWrite n) (Addr.plus a 0x1F) (leBytes 1 emptyCode))

/-- The write-back of Stream Record n, bytes 0x10–0x3F, with the counters as they stand; the owed flag is cleared at the issue (R154). -/
def State.issueStreamWriteBack (s : State) (n : StreamId) : State :=
  (s.modStream n fun w => { w with owed := false, reported := w.counters }).issue
    (writeOf (.streamWriteBack n) (s.exchangeAddress (Config.streamRecordOffset + 64 * n.val + 0x10)) (s.stream n).writeBackBytes)

/-- The grant of Stream Writer n's request: a Buffer Record transfer before its own write-back (R154, R159). -/
def State.grantStream (s : State) (n : StreamId) : Option State :=
  match jobTransfer n (s.stream n).sequence (s.stream n).job with
  | some t => some (s.issue t)
  | none => if (s.stream n).owed then some (s.issueStreamWriteBack n) else none

/-! ### Status Writer -/

/-- The owed flag of a record cleared and its update count increased by 1, wrapping (R174). -/
def StatusWriter.granted (w : StatusWriter) : StatusRecord → StatusWriter
  | .station => { w with stationOwed := false, stationUpdates := w.stationUpdates + 1 }
  | .lane n => { w with lanesOwed := w.lanesOwed.set n false, laneUpdates := w.laneUpdates.set n (w.laneUpdates[n] + 1) }

/-- The write of a Status Record, with the update count it carries and its content as at the grant (R174, R175). -/
def State.statusTransfer (s : State) : StatusRecord → Transfer
  | .station => writeOf (.statusRecordWrite .station) (s.exchangeAddress Config.stationStatusOffset)
      (stationRecordBytes s (s.status.stationUpdates + 1))
  | .lane n => writeOf (.statusRecordWrite (.lane n)) (s.exchangeAddress (Config.laneStatusOffset + 64 * n.val))
      (laneRecordBytes (s.lane n) s.survey.lastMean[n] (s.status.laneUpdates[n] + 1))

/-- The grant of a Status Record's request (R174). -/
def State.grantStatus (s : State) (r : StatusRecord) : Option State :=
  if s.status.owes r then
    some (State.issue { s with status := s.status.granted r } (s.statusTransfer r))
  else none

/-! ### The grant (R161) -/

/-- The grant of one class-1 request; `none` when the requester has nothing left to transfer (R159). -/
def State.grantRequest (s : State) : Requester → Option State
  | .fetcher => s.grantFetcher
  | .stream n => s.grantStream n
  | .status r => s.grantStatus r

/-- The Record Queue with its head gone. -/
def State.setQueue (s : State) (queue : List Requester) : State :=
  { s with arbiter := { s.arbiter with queue := queue } }

/-- Class 1: the head of the queue is granted; a request with nothing left to transfer is withdrawn and the Arbiter grants again at once
(R159, R161). `later` are the requests behind the queue. `none`, when no request of the queue is left. -/
def State.grantQueue (s : State) (later : List Requester) : List Requester → Option State
  | [] => none
  | r :: rest =>
    match (s.setQueue (rest ++ later)).grantRequest r with
    | some t => some t
    | none => s.grantQueue later rest

/-- How far a stream stands above the rotation point, 0 for the next one, wrapping from 15 to 0 (R163). -/
def rotationDistance (rotation n : StreamId) : Nat :=
  (n.val + 15 - rotation.val) % 16

/-- `a` goes before `b`: a lower priority number, then the one met first from the rotation point plus 1 (R163). -/
def slotBefore (s : State) (a b : StreamId) : Bool :=
  let pa := (s.stream a).priority
  let pb := (s.stream b).priority
  decide (pa < pb) || (pa == pb && decide (rotationDistance s.arbiter.rotation a < rotationDistance s.arbiter.rotation b))

/-- The stream chosen among those with a class-2 request waiting (R163). -/
def chooseSlot (s : State) : List StreamId → Option StreamId
  | [] => none
  | n :: rest =>
    match chooseSlot s rest with
    | none => some n
    | some m => if slotBefore s m n then some m else some n

/-- The head slot leaves the FIFO, becomes the slot in flight and is written at the index equal to the filled count (R142, R144);
the stream becomes the rotation point (R163). -/
def State.issueSlot (s : State) (n : StreamId) (b : HeldBuffer) (slot : Slot) (rest : List Slot) : State :=
  let t := s.modStream n fun w => { w with fifo := rest, inFlight := some slot }
  let u : State := { t with arbiter := { t.arbiter with rotation := n } }
  u.issue (writeOf (.slotWrite n) (Addr.plus b.dataArea (192 * b.filled)) slot.bytes192)

/-- The grant of a slot write of stream n; a waiting request has a slot and a current buffer (R144, R162). -/
def State.grantSlot (s : State) (n : StreamId) : State :=
  match (s.stream n).fifo, (s.stream n).current with
  | slot :: rest, some b => s.issueSlot n b slot rest
  | _, _ => s

/-- Class 2: a slot write chosen by R163 among the streams given; `none` when there is none. -/
def State.grantClass2 (s : State) (slots : List StreamId) : Option State :=
  match chooseSlot s slots with
  | none => none
  | some n => some (s.grantSlot n)

/-- Class 1 before class 2 (R161), among the requests and the streams given; `later` requests stay in the Record Queue. `none`, when
nothing is left to grant. -/
def State.grantAmong (s : State) (queue later : List Requester) (slots : List StreamId) : Option State :=
  match s.grantQueue later queue with
  | some t => some t
  | none => (s.setQueue later).grantClass2 slots

/-- The requests that the next grant is taken before: the ones placed since the port became free, when the free value says so (R161). -/
def Arbiter.later (a : Arbiter) (wait : Bool) : List Requester :=
  if a.fresh = 0 then [] else if wait then a.queue.drop (a.queue.length - a.fresh) else []

/-- The requests that the next grant chooses among. -/
def Arbiter.now (a : Arbiter) (wait : Bool) : List Requester :=
  if a.fresh = 0 then a.queue else if wait then a.queue.take (a.queue.length - a.fresh) else a.queue

/-- The streams whose class-2 requests the next grant chooses among: all that wait, or all but the one whose completion freed the port,
when the free value says so (R161). -/
def State.slotsNow (s : State) (wait : Bool) : List StreamId :=
  match s.arbiter.handedTo with
  | none => s.slotRequests
  | some h => if wait then s.slotRequests.filter fun n => n != h else s.slotRequests

/-- The free values of this grant are read once, and no request is new any more (R161). -/
def State.endRace (s : State) : State :=
  { s with
    picks := if s.arbiter.fresh = 0 && s.arbiter.handedTo.isNone then s.picks else s.picks + 1
    arbiter := { s.arbiter with fresh := 0, handedTo := none } }

/-- The grant at a free port, taken before the new requests where `requestsWait` and `slotWaits` say so. When nothing else waits, they
are taken and the grant is made at once (R161). -/
def State.grantWith (s : State) (requestsWait slotWaits : Bool) : State :=
  let t := s.endRace
  let later := s.arbiter.later requestsWait
  match t.grantAmong (s.arbiter.now requestsWait) later (s.slotsNow slotWaits) with
  | some u => u
  | none =>
    match t.grantAmong later [] s.slotRequests with
    | some u => u
    | none => t.setQueue []

/-- TRANSFER_GRANT (R161): while the port is busy nothing is granted (R158). -/
def execTransferGrant (s : State) : Host.Outcome State Fault Refusal :=
  match s.arbiter.port with
  | some _ => .next s
  | none => .next (s.grantWith (Config.newRequestsWait s.picks) (Config.newSlotWaits s.picks))

/-- Everything that waits has been granted: no class-1 or class-2 request waits and the port is free (R171). -/
def State.arbiterQuiet (s : State) : Bool :=
  s.arbiter.queue.isEmpty && s.arbiter.port.isNone && s.slotRequests.isEmpty

end Sys2Proof.Machine
end

