-- ==== Sys2Proof/Machine/Mast.lean ====
section
/-! DEFINITION. The Impulse Detectors (R9 to R11) and the Station Timer (R12). -/

namespace Sys2Proof.Machine

/-- The Impulse Detectors run while the device is RUNNING or STOPPING (R9). -/
def DeviceState.detects : DeviceState → Bool
  | .idle => false
  | .loading => false
  | .running => true
  | .stopping => true
  | .faulted => false

/-- A tap set to mast m has its hit mark set; any other tap is not touched (R10). -/
def Tap.strike (t : Tap) (m : Mast) : Tap :=
  match t.setting with
  | none => t
  | some c => if c.mast = m then { t with hit := true } else t

/-- The rise of mast m's magnitude is an impulse event: the detector runs, the threshold is not 0, the magnitude is above it and no
excursion is in progress (R9). -/
def State.isImpulse (s : State) (m : Mast) (magnitude : Fin 257) : Bool :=
  s.link.device.detects && s.station.threshold m != 0 && decide (s.station.threshold m < magnitude.val) && !(s.front m).above

/-- An impulse event: it is counted (R11) and marks every tap set to its mast (R10). -/
def State.impulse (s : State) (m : Mast) : State :=
  let t := s.setFront m { above := true, count := satInc (s.front m).count }
  { t with
    lanes := Vec.map (fun l => { l with tap := l.tap.strike m }) s.lanes
    survey := { s.survey with tap := s.survey.tap.strike m } }

/-- IMPULSE_EVENT (R10). A magnitude that is no rise above the threshold gives no event (R9). -/
def execImpulseEvent (m : Mast) (magnitude : Fin 257) (s : State) : Host.Outcome State Fault Refusal :=
  if s.isImpulse m magnitude then .next (s.impulse m) else .next s

/-- MAGNITUDE_FALLS_BACK (R9): at the threshold or below the excursion ends. -/
def execMagnitudeFallsBack (m : Mast) (magnitude : Fin 257) (s : State) : Host.Outcome State Fault Refusal :=
  if s.link.device.detects && decide (magnitude.val ≤ s.station.threshold m) then
    .next (s.setFront m { s.front m with above := false })
  else .next s

/-- STATION_TIMER_TICK (R12): the count wraps from 2^48 − 1 to 0. -/
def execStationTimerTick (s : State) : Host.Outcome State Fault Refusal :=
  .next { s with time := s.time + 1 }

end Sys2Proof.Machine
end

