-- ==== Sys2Proof/Machine/Device.lean ====
section
/-! DEFINITION. The device states (chapter 10): load, run, stop, the Attention pending set, the Status Writer's timer and completions, and
the resets. -/

namespace Sys2Proof.Machine

/-! ### Loading (R169, R170) -/

/-- Put a new device state. -/
def State.setDevice (s : State) (d : DeviceState) : State :=
  { s with link := { s.link with device := d } }

/-- The Attention pending set emptied (R172). -/
def State.emptyPending (s : State) : State :=
  { s with fetcher := { s.fetcher with pendingSet := .empty } }

/-- Entry to LOADING (R170): the load fault reason becomes NONE and the Station Block is to be read. -/
def State.enterLoading (s : State) : State :=
  { s with
    link := { s.link with device := .loading, loadFault := .none }
    fetcher := { s.fetcher with loadRead := .wanted } }

/-- Entry to FAULTED (R170): the reason, the FAULT notice, the Station Status Record asked for; the pending set is emptied (R172). -/
def State.enterFaulted (s : State) (reason : LoadFault) : State :=
  let t : State := { s with
    link := { s.link with device := .faulted, loadFault := reason }
    fetcher := { s.fetcher with loadRead := .none } }
  (t.emptyPending.raise .fault).oweStation

/-- The length of the status interval timer (R173): none with an interval of 0. -/
def statusDeadline (now : Time) (interval : Nat) : Timer :=
  if interval = 0 then none else some (deadline now (interval * Config.tenMilliseconds))

/-- The pending set on entry to RUNNING: every lane, FILTER and every stream, and a STATUS-NOW written before (R172). -/
def PendingSet.filled (p : PendingSet) : PendingSet where
  lanes := Vector.replicate 12 true
  filter := true
  streams := Vector.replicate 16 true
  statusNow := p.statusNow

/-- Entry to RUNNING with new settings (R170, R171): the detectors start as if no excursion were in progress (R9), the pending set is
filled, the status interval timer starts. -/
def State.enterRunning (s : State) (settings : StationSettings) : State :=
  { s with
    station := settings
    link := { s.link with device := .running }
    mastA := { s.mastA with above := false }
    mastB := { s.mastB with above := false }
    fetcher := { s.fetcher with loadRead := .none, pendingSet := s.fetcher.pendingSet.filled }
    status := { s.status with intervalTimer := statusDeadline s.time settings.statusInterval } }

/-- The checks of R170 on the data read, and what follows. -/
def State.finishLoad (s : State) (block : Vector Byte 256) : State :=
  match blockFault block with
  | .none => s.enterRunning (settingsOf block)
  | .badSignature => s.enterFaulted .badSignature
  | .badVersion => s.enterFaulted .badVersion
  | .linkError => s.enterFaulted .linkError

/-- STATION_BLOCK_READ_COMPLETE (R170). The data of a load that RUN = 0 abandoned is discarded, and a newer load then reads afresh
(R169). -/
def execStationBlockReadComplete (result : ReadResult 256) (s : State) : Host.Outcome State Fault Refusal :=
  match s.arbiter.port with
  | none => .next s
  | some t =>
    match t.kind with
    | .stationBlockRead =>
      let u := s.endRead t (result == .error) .planFetcher
      if t.abandoned then .next u
      else if s.link.device = .loading ∧ s.fetcher.loadRead = .issued then
        match result with
        | .error => .next (u.enterFaulted .linkError).settle
        | .data block => .next (u.finishLoad block).settle
      else .next u.settle
    | _ => .next s

/-! ### Stopping (R171) -/

/-- A lane at the start of STOPPING: its pending plan is discarded and it enters OFF (R68). -/
def Lane.stop (l : Lane) (now : Time) : Lane :=
  { l.enterOff now with pendingPlan := none, applyWindow := none }

/-- A stream at the start of STOPPING: OPEN and STARVED behave as on a request CLOSE, the others stay (R156). -/
def StreamWriter.stop (w : StreamWriter) : StreamWriter :=
  match w.phase with
  | .opened => w.requestClose 0
  | .starved => w.requestClose 0
  | .closed => w
  | .closing => w
  | .halted => w

/-- A load whose shadow is being filled is abandoned at once when no read of it is in flight (R135). -/
def State.stopLoad (s : State) : State :=
  if s.router.shadow.isFilling && !s.blockInFlight then s.abandonLoad else s

/-- A Lane Slot's answer at the start of STOPPING: an owed TAKEN or REFUSED answer is still written, an ACCEPTED one that was never issued is not,
so that the slot keeps the answer before it (R114). DESIGN CHOICE: an answer that such an ACCEPTED had replaced before its own issue is
not written either (log entry 33). -/
def SlotAnswer.stop (a : SlotAnswer) : SlotAnswer :=
  { a with owed := a.owed && a.image.mark != .accepted }

/-- Entry to STOPPING (R171): lanes by R68, answers by R114, streams by R156, with the counts of those at rest to be written back, a load being
filled by R135. -/
def State.enterStopping (s : State) : State :=
  let t : State := { s with
    fetcher := { s.fetcher with answers := Vec.map SlotAnswer.stop s.fetcher.answers }
    lanes := Vec.map (fun l => l.stop s.time) s.lanes
    survey := { s.survey with queue := [], dwell := none, tap := .idle }
    streams := Vec.map StreamWriter.stop s.streams
    status := { s.status with intervalTimer := none } }
  (t.stopLoad.emptyPending.setDevice .stopping).oweFinalCounts

/-- A stream at rest: CLOSED or HALTED with no transfer owed or in flight (R171). -/
def StreamWriter.atRest (w : StreamWriter) : Bool :=
  (w.phase == .closed || w.phase == .halted) && w.job == .none && !w.owed && w.inFlight.isNone

/-- A Lane Slot write-back is in flight. -/
def State.writeBackInFlight (s : State) : Bool :=
  match s.inFlight with
  | some (.laneSlotWriteBack _ _) => true
  | _ => false

/-- The stop is complete (R171); a ready shadow is swapped in before (R135, log entry 9). -/
def State.stopIsComplete (s : State) : Bool :=
  s.router.queue.isEmpty && s.router.inHand.isNone && s.streams.toList.all StreamWriter.atRest
    && !s.fetcher.owes && !s.writeBackInFlight && s.arbiterQuiet && s.router.shadow == .none

/-- STOP_COMPLETE (R171): the Status Writer writes all thirteen Status Records. -/
def execStopComplete (s : State) : Host.Outcome State Fault Refusal :=
  if s.link.device == .stopping && !s.status.finalGroup && s.stopIsComplete then
    .next (State.settle (State.oweAll { s with status := { s.status with finalGroup := true } }))
  else .next s

/-- Entry to IDLE at the end of STOPPING (R171): the detectors stop (R9), the last answered tags become none (R94), STOPPED is raised; a RUN
that reads 1 enters LOADING at once (R169). -/
def State.endStopping (s : State) : State :=
  let t : State := { s with
    mastA := { s.mastA with above := false }
    mastB := { s.mastB with above := false }
    fetcher := { s.fetcher with answers := Vec.map (fun a => { a with lastAnswered := none }) s.fetcher.answers, pendingSet := .empty }
    status := { s.status with finalGroup := false } }
  let u := (t.setDevice .idle).raise .stopped
  if u.link.run then u.enterLoading else u

/-- No Status Record is owed and no request for one waits: with the port free, the last of the final writes has completed (R171). -/
def State.statusDone (s : State) : Bool :=
  s.arbiter.queue.isEmpty && !(allRecords.any s.status.owes)

/-- STATUS_RECORD_WRITE_COMPLETE (R174): a failed write is not repeated, and the record is written again if it became owed meanwhile. The
last of the final group ends STOPPING (R171). -/
def execStatusRecordWriteComplete (result : WriteResult) (s : State) : Host.Outcome State Fault Refusal :=
  match s.arbiter.port with
  | none => .next s
  | some t =>
    match t.kind with
    | .statusRecordWrite _ =>
      let u := s.endWrite t result .statusWriter
      if t.abandoned then .next u
      else if s.link.device == .stopping && s.status.finalGroup && s.statusDone then .next u.endStopping.settle
      else .next u.settle
    | _ => .next s

/-- STATUS_INTERVAL_EXPIRY (R173): all thirteen Status Records are asked for and the timer restarts from the expiry. It arises only at the
timer's deadline (R13). -/
def execStatusIntervalExpiry (s : State) : Host.Outcome State Fault Refusal :=
  if expiresAt s.status.intervalTimer s.time then
    .next (State.settle (State.oweAll
      { s with status := { s.status with intervalTimer := statusDeadline s.time s.station.statusInterval } }))
  else .next s

/-! ### RUN (R169) -/

/-- RUN as last written (R168). -/
def State.setRun (s : State) (run : Bool) : State :=
  { s with link := { s.link with run := run } }

/-- RUN_SET (R169): IDLE enters LOADING; STOPPING keeps it for its end; the other states only read it back. -/
def execRunSet (s : State) : Host.Outcome State Fault Refusal :=
  match s.link.device with
  | .idle => .next ((s.setRun true).enterLoading).settle
  | .loading => .next (s.setRun true)
  | .running => .next (s.setRun true)
  | .stopping => .next (s.setRun true)
  | .faulted => .next (s.setRun true)

/-- A load abandoned by RUN = 0 (R169): IDLE, and the read of the Station Block, if it is in flight, is no longer wanted. -/
def State.abandonStation (s : State) : State :=
  State.setDevice (State.emptyPending { s with fetcher := { s.fetcher with loadRead := .none } }) .idle

/-- RUN_CLEAR (R169): LOADING is abandoned, RUNNING enters STOPPING, FAULTED enters IDLE. -/
def execRunClear (s : State) : Host.Outcome State Fault Refusal :=
  match s.link.device with
  | .idle => .next (s.setRun false)
  | .loading => .next (s.setRun false).abandonStation
  | .running => .next (s.setRun false).enterStopping.settle
  | .stopping => .next (s.setRun false)
  | .faulted => .next (State.setDevice (s.setRun false).emptyPending .idle)

/-! ### Resets (R166, R178) -/

/-- What no reset touches because it is not the part's: what has left the part, the free values read, the commands waiting. -/
def State.keepOutside (s fresh : State) : State :=
  { fresh with output := s.output, picks := s.picks, pending := s.pending }

/-- A transfer granted before a soft reset finishes on the link, handed to no requester (R166). -/
def Transfer.abandon (t : Transfer) : Transfer :=
  { t with abandoned := true }

/-- SOFT_RESET (R178): every reset value, but for the Exchange Base and the Station Timer; a transfer on the link keeps the port busy
(R166). -/
def execSoftReset (s : State) : Host.Outcome State Fault Refusal :=
  let fresh : State := { State.reset with
    time := s.time
    link := { LinkPort.reset with base := s.link.base }
    arbiter := { Arbiter.reset with port := s.arbiter.port.map Transfer.abandon } }
  .next (s.keepOutside fresh)

/-- POWER_ON_RESET (R178). -/
def execPowerOnReset (s : State) : Host.Outcome State Fault Refusal :=
  .next (s.keepOutside State.reset)

end Sys2Proof.Machine
end

