-- ==== Sys2Proof/WellFormed.lean ====
section
/-! DEFINITION. Which commands a sender may send, beyond what the operands' types already say. -/

namespace Sys2Proof

/-- The bits of a register on which a write of 1 has an effect while a write of 0 has none: the Attention bits 0–29 and the
seven Notice bits (R168, spec/11 11.3). `none` for a register of which every write, or no write, has an effect. -/
def writeOneBits (offset : BitVec 8) : Option (BitVec 32) :=
  if offset = 0x10#8 then some 0x3FFFFFFF#32
  else if offset = 0x14#8 then some 0x7F#32
  else none

/-- A register write that R168 ignores whole: to Identity, or to unlisted bits alone of a register where writing 0 does nothing. -/
def writeIsIgnored (offset : BitVec 8) (value : BitVec 32) : Bool :=
  offset == 0x00#8 ||
    match writeOneBits offset with
    | some bits => value &&& bits == 0#32
    | none => false

/-- A command a sender may send. An uncorrectable packet has a corrected-byte count of 0 (R70); a write the part is said to
ignore is one that R168 ignores. Every other bound (P in 0..16383, S and E in 0..65535, lanes, streams) is in the types. -/
def Instr.wellFormed : Instr → Bool
  | .impulseEvent _ _ => true
  | .symbolReport _ _ _ _ _ => true
  | .surveyReport _ _ => true
  | .seekTimerExpiry _ => true
  | .surveyIntervalExpiry _ => true
  | .applyWindowExpiry _ => true
  | .packetGate _ _ _ uncorrectable corrected => !uncorrectable || corrected == 0
  | .routePacket => true
  | .filterSwap => true
  | .flushTimerExpiry _ => true
  | .statusIntervalExpiry => true
  | .transferGrant => true
  | .stationBlockReadComplete _ => true
  | .laneSlotReadComplete _ => true
  | .laneSlotWriteBackComplete _ => true
  | .filterBlockReadComplete _ => true
  | .streamRecordReadComplete _ => true
  | .bufferRecordReadComplete _ => true
  | .fillingWriteComplete _ => true
  | .slotWriteComplete _ => true
  | .closingFieldsWriteComplete _ => true
  | .markWriteComplete _ => true
  | .emptyMarkWriteComplete _ => true
  | .streamWriteBackComplete _ => true
  | .statusRecordWriteComplete _ => true
  | .stopComplete => true
  | .runSet => true
  | .runClear => true
  | .softReset => true
  | .powerOnReset => true
  | .exchangeBaseLow _ => true
  | .exchangeBaseHigh _ => true
  | .attentionLane _ => true
  | .attentionStream _ => true
  | .attentionFilter => true
  | .attentionStatusNow => true
  | .noticeClear _ => true
  | .noticeEnable _ => true
  | .registerWriteIgnored offset value => writeIsIgnored offset value
  | .magnitudeFallsBack _ _ => true
  | .stationTimerTick => true

end Sys2Proof
end

