-- ==== Sys2Proof/Machine/Window.lean ====
section
/-! DEFINITION. The register window (R167, R168, spec/11 11.3): what a read returns, which commands a write is, and the commands of the
Exchange Base, Attention, Notice and Notice Enable registers. -/

namespace Sys2Proof.Machine

/-! ### Exchange Base (R167) -/

/-- A write to the base is taken while the device is IDLE or FAULTED (R167). -/
def DeviceState.baseWritable : DeviceState → Bool
  | .idle => true
  | .loading => false
  | .running => false
  | .stopping => false
  | .faulted => true

/-- Put a new Exchange Base. -/
def State.setBase (s : State) (base : Addr) : State :=
  { s with link := { s.link with base := base } }

/-- The low half of a base with its low 12 bits 0 (R167). -/
def lowHalf (value : BitVec 32) : BitVec 32 :=
  value &&& 0xFFFFF000#32

/-- EXCHANGE_BASE_LOW (R167). -/
def execExchangeBaseLow (value : BitVec 32) (s : State) : Host.Outcome State Fault Refusal :=
  if s.link.device.baseWritable then .next (s.setBase (s.link.base.extractLsb' 32 32 ++ lowHalf value)) else .next s

/-- EXCHANGE_BASE_HIGH (R167). -/
def execExchangeBaseHigh (value : BitVec 32) (s : State) : Host.Outcome State Fault Refusal :=
  if s.link.device.baseWritable then .next (s.setBase (value ++ s.link.base.extractLsb' 0 32)) else .next s

/-! ### Attention (R172) -/

/-- An Attention write adds items while the device is LOADING or RUNNING, and is ignored otherwise (R172). -/
def DeviceState.takesAttention : DeviceState → Bool
  | .idle => false
  | .loading => true
  | .running => true
  | .stopping => false
  | .faulted => false

/-- The pending set with other contents. -/
def State.setPending (s : State) (p : PendingSet) : State :=
  { s with fetcher := { s.fetcher with pendingSet := p } }

/-- ATTENTION_LANE (R172). A lane whose item is in hand is put back in the set (R96). -/
def execAttentionLane (n : LaneId) (s : State) : Host.Outcome State Fault Refusal :=
  let p := s.fetcher.pendingSet
  if s.link.device.takesAttention then .next (s.setPending { p with lanes := p.lanes.set n true }).settle else .next s

/-- ATTENTION_STREAM (R172). A stream whose item is in hand is put back in the set (R138). -/
def execAttentionStream (n : StreamId) (s : State) : Host.Outcome State Fault Refusal :=
  let p := s.fetcher.pendingSet
  if s.link.device.takesAttention then .next (s.setPending { p with streams := p.streams.set n true }).settle else .next s

/-- ATTENTION_FILTER (R172): it joins the set, or restarts a load being filled (R131). -/
def execAttentionFilter (s : State) : Host.Outcome State Fault Refusal :=
  if s.link.device.takesAttention then .next s.nameFilter.settle else .next s

/-- ATTENTION_STATUS_NOW (R172, R173). -/
def execAttentionStatusNow (s : State) : Host.Outcome State Fault Refusal :=
  let p := s.fetcher.pendingSet
  if s.link.device.takesAttention then .next (s.setPending { p with statusNow := true }).settle else .next s

/-! ### Notice and Notice Enable (R176, R177) -/

/-- NOTICE_CLEAR (R176): each 1 in a cause position clears that cause. -/
def execNoticeClear (value : BitVec 32) (s : State) : Host.Outcome State Fault Refusal :=
  .next (s.setNotices (s.link.notice &&& ~~~(value.setWidth 7)) s.link.enable)

/-- NOTICE_ENABLE (R177): the enable bits are replaced; enabling a cause already set may send an interrupt message. -/
def execNoticeEnable (value : BitVec 32) (s : State) : Host.Outcome State Fault Refusal :=
  .next (s.setNotices s.link.notice (value.setWidth 7))

/-- REGISTER_WRITE_IGNORED (R168): nothing changes. -/
def execRegisterWriteIgnored (offset : BitVec 8) (value : BitVec 32) (s : State) : Host.Outcome State Fault Refusal :=
  match offset, value with
  | _, _ => .next s

/-! ### The seven registers as the host sees them -/

/-- The Control register as read: RUN as last written, RESET as 0, device state, load fault reason (R168, spec/11 11.3). -/
def controlWord (l : LinkPort) : BitVec 32 :=
  BitVec.ofNat 32 (l.run.toNat + 2 ^ 8 * l.device.code + 2 ^ 16 * l.loadFault.code)

/-- What a host read of a register returns; `none` at an offset that holds no register. A read changes nothing (R168). -/
def State.readRegister (s : State) (offset : BitVec 8) : Option (BitVec 32) :=
  if offset = 0x00#8 then some Config.identity
  else if offset = 0x04#8 then some (controlWord s.link)
  else if offset = 0x08#8 then some (s.link.base.extractLsb' 0 32)
  else if offset = 0x0C#8 then some (s.link.base.extractLsb' 32 32)
  else if offset = 0x10#8 then some 0
  else if offset = 0x14#8 then some (s.link.notice.setWidth 32)
  else if offset = 0x18#8 then some (s.link.enable.setWidth 32)
  else none

/-- The commands of an Attention write: lanes, then FILTER, then streams, then STATUS-NOW, the order in which the Plan Fetcher chooses
(R172; bit places of spec/11). -/
def attentionCommands (mask : BitVec 32) : List Instr :=
  (allLanes.filter fun n => mask.getLsbD n.val).map .attentionLane
    ++ (if mask.getLsbD 28 then [Instr.attentionFilter] else [])
    ++ (allStreams.filter fun n => mask.getLsbD (12 + n.val)).map .attentionStream
    ++ (if mask.getLsbD 29 then [Instr.attentionStatusNow] else [])

/-- The command of a Control write: RESET = 1 takes the soft reset and ignores RUN (R168). -/
def controlCommand (value : BitVec 32) : Instr :=
  if value.getLsbD 1 then .softReset else if value.getLsbD 0 then .runSet else .runClear

/-- The commands that a host write of a register is (R168). DESIGN CHOICE: a write at an offset that holds no register is no command
(log entry 32). -/
def registerWrite (offset : BitVec 8) (value : BitVec 32) : List Instr :=
  if offset = 0x04#8 then [controlCommand value]
  else if offset = 0x08#8 then [.exchangeBaseLow value]
  else if offset = 0x0C#8 then [.exchangeBaseHigh value]
  else if writeIsIgnored offset value then [.registerWriteIgnored offset value]
  else if offset = 0x10#8 then attentionCommands value
  else if offset = 0x14#8 then [.noticeClear value]
  else if offset = 0x18#8 then [.noticeEnable value]
  else []

/-- A host write put at the end of the queue of waiting commands. -/
def State.hostWrite (s : State) (offset : BitVec 8) (value : BitVec 32) : State :=
  { s with pending := s.pending ++ registerWrite offset value }

end Sys2Proof.Machine
end

