-- ==== Sys2Proof/Machine/Dispatch.lean ====
section
/-! DEFINITION. One arm per command: the meaning of each (spec/opcode_table.json). -/

namespace Sys2Proof.Machine

def exec (i : Instr) (s : State) : Host.Outcome State Fault Refusal :=
  match i with
  | .impulseEvent mast magnitude => Sys2Proof.Machine.execImpulseEvent mast magnitude s
  | .symbolReport lane period signal error frameStart => Sys2Proof.Machine.execSymbolReport lane period signal error frameStart s
  | .surveyReport signal error => Sys2Proof.Machine.execSurveyReport signal error s
  | .seekTimerExpiry lane => Sys2Proof.Machine.execSeekTimerExpiry lane s
  | .surveyIntervalExpiry lane => Sys2Proof.Machine.execSurveyIntervalExpiry lane s
  | .applyWindowExpiry lane => Sys2Proof.Machine.execApplyWindowExpiry lane s
  | .packetGate lane packet mast uncorrectable corrected => Sys2Proof.Machine.execPacketGate lane packet mast uncorrectable corrected s
  | .routePacket => Sys2Proof.Machine.execRoutePacket s
  | .filterSwap => Sys2Proof.Machine.execFilterSwap s
  | .flushTimerExpiry stream => Sys2Proof.Machine.execFlushTimerExpiry stream s
  | .statusIntervalExpiry => Sys2Proof.Machine.execStatusIntervalExpiry s
  | .transferGrant => Sys2Proof.Machine.execTransferGrant s
  | .stationBlockReadComplete result => Sys2Proof.Machine.execStationBlockReadComplete result s
  | .laneSlotReadComplete result => Sys2Proof.Machine.execLaneSlotReadComplete result s
  | .laneSlotWriteBackComplete result => Sys2Proof.Machine.execLaneSlotWriteBackComplete result s
  | .filterBlockReadComplete result => Sys2Proof.Machine.execFilterBlockReadComplete result s
  | .streamRecordReadComplete result => Sys2Proof.Machine.execStreamRecordReadComplete result s
  | .bufferRecordReadComplete result => Sys2Proof.Machine.execBufferRecordReadComplete result s
  | .fillingWriteComplete result => Sys2Proof.Machine.execFillingWriteComplete result s
  | .slotWriteComplete result => Sys2Proof.Machine.execSlotWriteComplete result s
  | .closingFieldsWriteComplete result => Sys2Proof.Machine.execClosingFieldsWriteComplete result s
  | .markWriteComplete result => Sys2Proof.Machine.execMarkWriteComplete result s
  | .emptyMarkWriteComplete result => Sys2Proof.Machine.execEmptyMarkWriteComplete result s
  | .streamWriteBackComplete result => Sys2Proof.Machine.execStreamWriteBackComplete result s
  | .statusRecordWriteComplete result => Sys2Proof.Machine.execStatusRecordWriteComplete result s
  | .stopComplete => Sys2Proof.Machine.execStopComplete s
  | .runSet => Sys2Proof.Machine.execRunSet s
  | .runClear => Sys2Proof.Machine.execRunClear s
  | .softReset => Sys2Proof.Machine.execSoftReset s
  | .powerOnReset => Sys2Proof.Machine.execPowerOnReset s
  | .exchangeBaseLow value => Sys2Proof.Machine.execExchangeBaseLow value s
  | .exchangeBaseHigh value => Sys2Proof.Machine.execExchangeBaseHigh value s
  | .attentionLane lane => Sys2Proof.Machine.execAttentionLane lane s
  | .attentionStream stream => Sys2Proof.Machine.execAttentionStream stream s
  | .attentionFilter => Sys2Proof.Machine.execAttentionFilter s
  | .attentionStatusNow => Sys2Proof.Machine.execAttentionStatusNow s
  | .noticeClear value => Sys2Proof.Machine.execNoticeClear value s
  | .noticeEnable value => Sys2Proof.Machine.execNoticeEnable value s
  | .registerWriteIgnored offset value => Sys2Proof.Machine.execRegisterWriteIgnored offset value s
  | .magnitudeFallsBack mast magnitude => Sys2Proof.Machine.execMagnitudeFallsBack mast magnitude s
  | .stationTimerTick => Sys2Proof.Machine.execStationTimerTick s

end Sys2Proof.Machine
end

