-- ==== Sys2Proof/Safety.lean ====
section
/-! DEFINITION. The terms in which statements about the part are made: what a step leaves alone, the requests it places, which command ends
which transfer, and the invariants that every step keeps. -/

namespace Sys2Proof.Machine

/-! ### Frames -/

/-- All of the state but what the Transfer Arbiter holds and the count of free values read. -/
def State.withoutArbiter (s : State) : State :=
  { s with arbiter := .reset, picks := 0 }

/-- A requester has something to transfer (R159). -/
def State.hasTransfer (s : State) : Requester → Bool
  | .fetcher => s.fetcherWants
  | .stream n => (s.stream n).wants
  | .status r => s.status.owes r

/-- A request of the Status Writer. -/
def Requester.isStatus : Requester → Bool
  | .fetcher => false
  | .stream _ => false
  | .status _ => true

/-- `t` is `u` once every requester that has something to transfer and no request outstanding has placed one, at the tail of the Record
Queue (R159, R160): the station's before the lanes' in rising order among the Status Writer's (R174), each counted as one that the next
grant may be taken before when the port is free (R161, log entry 2), while the
stream whose completion freed the port is remembered only as long as its class-2 request waits. Nothing else
differs, but for the count of free values read. -/
def Placed (u t : State) : Prop :=
  t.withoutArbiter = u.withoutArbiter ∧ t.arbiter.port = u.arbiter.port ∧ t.arbiter.rotation = u.arbiter.rotation ∧
    t.arbiter.handedTo = (u.arbiter.handedTo.filter fun n => (u.stream n).slotWaiting) ∧
    ∃ new : List Requester, t.arbiter.queue = u.arbiter.queue ++ new ∧ new.Nodup ∧
      (∀ r, r ∈ new ↔ u.hasTransfer r = true ∧ u.outstanding r = false) ∧
      (new.filter Requester.isStatus).Sublist (allRecords.map .status) ∧
      t.arbiter.fresh = if u.arbiter.port = none then u.arbiter.fresh + new.length else u.arbiter.fresh

/-- The command answers a next state: `u`, with STATUS-NOW taken where it is the first item (R172; taken within the same command:
log entry 27), and with requests placed. -/
def Gives (c : Instr) (s u : State) : Prop :=
  ∃ t, exec c s = .next t ∧ Placed u.takeStatusNow t

/-- The transfer in flight is handed to its requester when it ends: no soft reset has been taken since its grant (R166). -/
def State.carries (s : State) (t : Transfer) (k : TransferKind) : Prop :=
  s.arbiter.port = some t ∧ t.kind = k ∧ t.abandoned = false

/-- Which command is the completion of a transfer of which kind. -/
def ends : Instr → TransferKind → Bool
  | .stationBlockReadComplete _, .stationBlockRead => true
  | .laneSlotReadComplete _, .laneSlotRead _ => true
  | .laneSlotWriteBackComplete _, .laneSlotWriteBack _ _ => true
  | .filterBlockReadComplete _, .filterBlockRead _ => true
  | .streamRecordReadComplete _, .streamRecordRead _ => true
  | .bufferRecordReadComplete _, .bufferRecordRead _ => true
  | .fillingWriteComplete _, .fillingWrite _ => true
  | .slotWriteComplete _, .slotWrite _ => true
  | .closingFieldsWriteComplete _, .closingFieldsWrite _ => true
  | .markWriteComplete _, .markWrite _ => true
  | .emptyMarkWriteComplete _, .emptyMarkWrite _ => true
  | .streamWriteBackComplete _, .streamWriteBack _ => true
  | .statusRecordWriteComplete _, .statusRecordWrite _ => true
  | _, _ => false

/-- The link error a completion carries, if it carries one (R164). -/
def errorOf : Instr → Option FaultKind
  | .stationBlockReadComplete .error => some .readError
  | .laneSlotReadComplete .error => some .readError
  | .filterBlockReadComplete .error => some .readError
  | .streamRecordReadComplete .error => some .readError
  | .bufferRecordReadComplete .error => some .readError
  | .laneSlotWriteBackComplete .error => some .writeError
  | .fillingWriteComplete .error => some .writeError
  | .slotWriteComplete .error => some .writeError
  | .closingFieldsWriteComplete .error => some .writeError
  | .markWriteComplete .error => some .writeError
  | .emptyMarkWriteComplete .error => some .writeError
  | .streamWriteBackComplete .error => some .writeError
  | .statusRecordWriteComplete .error => some .writeError
  | _ => none

/-- The requester a link error is recorded against (R165). -/
def TransferKind.faultRequester : TransferKind → FaultRequester
  | .stationBlockRead => .planFetcher
  | .laneSlotRead _ => .planFetcher
  | .laneSlotWriteBack _ _ => .planFetcher
  | .filterBlockRead _ => .planFetcher
  | .streamRecordRead _ => .planFetcher
  | .bufferRecordRead n => .stream n
  | .fillingWrite n => .stream n
  | .closingFieldsWrite n => .stream n
  | .markWrite n => .stream n
  | .emptyMarkWrite n => .stream n
  | .streamWriteBack n => .stream n
  | .statusRecordWrite _ => .statusWriter
  | .slotWrite n => .stream n

/-- What a stream has received and what became of it: the six counts, with the slots in its FIFO and in flight (R155). -/
def StreamWriter.ledger (w : StreamWriter) : Nat :=
  w.counters.slotsWritten.toNat + w.counters.droppedStarved.toNat + w.counters.droppedFifo.toNat
    + w.counters.droppedFault.toNat + w.counters.droppedClosed.toNat + w.counters.withheld.toNat
    + w.fifo.length + w.inFlight.toList.length

/-- A number read out of bytes written: `size` bytes at `offset`, little-endian (00_scope, Numbers). -/
def writtenField (bytes : List Byte) (offset size : Nat) : Nat :=
  leValue size (bytes.drop offset)

/-! ### Lanes after a report, streams after a change, as the rules give them field by field -/

/-- The report is not excused (R36): it has no hit, or b is at or above B; `hits` is b afterwards. -/
def TakenReport (s : State) (n : LaneId) (p : TunePlan) (hits : Nat) : Prop :=
  (s.lane n).applied = some p ∧
    ((s.lane n).tap.hit = false ∧ hits = 0 ∨
      (s.lane n).tap.hit = true ∧ p.blankLimit ≤ (s.lane n).tracker.hits ∧ hits = min 255 ((s.lane n).tracker.hits + 1))

/-- What a used sample leaves: the raw sample, the accumulator, the loss count and b. -/
structure UsedSample where
  raw : Nat
  qacc : Nat
  losses : Nat
  hits : Nat
deriving DecidableEq, Repr

/-- The report is a used sample that leaves `u`: not excused, in the recognised entry's window or short of a mode loss outside it (R27, R39),
the accumulator moved or, when unseeded, seeded (R34, R35, R40, R41). -/
def UsedReport (s : State) (n : LaneId) (p : TunePlan) (period : Fin 16384) (signal error : BitVec 16) (u : UsedSample) : Prop :=
  TakenReport s n p u.hits ∧ u.raw = rawSample signal error ∧
    ∃ set c e, (s.lane n).tap.setting = some set ∧ (s.lane n).recognizer.recognised = some c ∧ s.station.modes[c] = some e ∧
      (e.contains period.val = true ∧ u.losses = 0 ∨
        e.contains period.val = false ∧ (s.lane n).recognizer.lossCount + 1 < e.missCount ∧ u.losses = (s.lane n).recognizer.lossCount + 1) ∧
      u.qacc = if (s.lane n).tracker.seeded = true
        then accumulate (s.lane n).tracker.qacc (trimmedSample u.raw (s.station.trim set.mast)) p.smoothing
        else 256 * trimmedSample u.raw (s.station.trim set.mast)

/-- QI after a used sample (R44). -/
def UsedSample.qi (u : UsedSample) : Nat :=
  (u.qacc + 128) / 256

/-- The lane after the first three steps of a used report in TRACK, LOCK or FADE (R53). -/
def Lane.afterUsed (l : Lane) (u : UsedSample) : Lane :=
  { l with
    tap := { l.tap with hit := false }
    recognizer := { l.recognizer with lossCount := u.losses }
    tracker := { seeded := true, qacc := u.qacc, hits := u.hits, lastRaw := u.raw } }

/-- A hit report is excused: b is below B (R36). -/
def ExcusedReport (s : State) (n : LaneId) (p : TunePlan) : Prop :=
  (s.lane n).applied = some p ∧ (s.lane n).tap.hit = true ∧ (s.lane n).tracker.hits < p.blankLimit ∧ p.blankLimit ≤ 15

/-- The lane after an excused report, and in FADE after its count toward the hold limit (R36, R38, R61). -/
def Lane.afterExcused (l : Lane) : Lane :=
  { l with
    tap := { l.tap with hit := false }
    tracker := { l.tracker with hits := l.tracker.hits + 1 }
    counters := { l.counters with blankedSymbols := satInc l.counters.blankedSymbols }
    hold := if l.phase = .fade then l.hold + 1 else l.hold }

/-- `v` is the part after the first four steps of a used report that leaves lane n in LOCK or FADE (R53). In LOCK the fade count moves, and at CF
the lane enters FADE, under an AUTO policy with its request (R59, R77). In FADE the recover count moves, and at CR the lane is in LOCK again;
short of CR the hold count is still below H (R60, R61; it counts the report of a recovery too, and a first-after-lock mark stays: log entries
23 and 29). -/
def UsedReportStays (s : State) (n : LaneId) (p : TunePlan) (u : UsedSample) (v : State) : Prop :=
  ((s.lane n).phase = .lock ∧ ∃ run, run = (if u.qi < p.unlockThreshold then (s.lane n).fadeRun + 1 else 0) ∧
    (run < p.fadeCount ∧ v = s.setLane n { (s.lane n).afterUsed u with fadeRun := run } ∨
      p.fadeCount ≤ run ∧
        ∃ t, t = s.setLane n { (s.lane n).afterUsed u with phase := .fade, lastChange := s.time, hold := 0, recoverRun := 0, fadeRun := 0 } ∧
          v = ((if p.mastPolicy.isAuto = true then t.fadeRequest n else t).oweLane n).raiseIf p.notify.state .lane)) ∨
  ((s.lane n).phase = .fade ∧ ∃ run, run = (if p.lockThreshold ≤ u.qi then (s.lane n).recoverRun + 1 else 0) ∧
    (run < p.recoverCount ∧ (s.lane n).hold + 1 < p.holdLimit ∧
        v = s.setLane n { (s.lane n).afterUsed u with recoverRun := run, hold := (s.lane n).hold + 1 } ∨
      p.recoverCount ≤ run ∧
        v = ((s.setLane n { (s.lane n).afterUsed u with
          phase := .lock
          lastChange := s.time
          lockIn := 0
          fadeRun := 0
          recoverRun := 0
          hold := (s.lane n).hold + 1 }).oweLane n).raiseIf p.notify.state .lane))

/-- `v` is the part after the first four steps of a report, used or excused, that leaves lane n in LOCK or FADE (R53, R36, R61). -/
def ReportStays (s : State) (n : LaneId) (p : TunePlan) (period : Fin 16384) (signal error : BitVec 16) (v : State) : Prop :=
  (∃ u, UsedReport s n p period signal error u ∧ UsedReportStays s n p u v) ∨
  (ExcusedReport s n p ∧ ((s.lane n).phase = .lock ∨ (s.lane n).phase = .fade ∧ (s.lane n).hold + 1 < p.holdLimit) ∧
    v = s.setLane n (s.lane n).afterExcused)

/-- The part after a switch order of mean `mean` has taken effect under plan p (R90): the mast toggles, Qacc is reseeded with the mean, b and the
three consecutive counts are 0, the switch is counted, the survey-interval timer restarts; the lane's request may be served now (R80, R86);
the record is owed, LANE under the switch flag. -/
def State.afterSwitch (s : State) (n : LaneId) (p : TunePlan) (mean : Nat) : State :=
  let l := s.lane n
  let switched : Lane := { l with
    activeMast := opposite l.activeMast
    tap := { l.tap with setting := l.tap.setting.map fun c => { c with mast := opposite l.activeMast } }
    tracker := { seeded := true, qacc := 256 * mean, hits := 0, lastRaw := l.tracker.lastRaw }
    lockIn := 0
    fadeRun := 0
    recoverRun := 0
    counters := { l.counters with switches := satInc l.counters.switches }
    surveyTimer := some (s.time + BitVec.ofNat 48 (p.surveyInterval * 1000000))
    switchOrder := none }
  ((s.setLane n switched).surveySettle.oweLane n).raiseIf p.notify.switch .lane

/-- The lane after an entry to SEEK under plan p (R54). -/
def Lane.afterSeekEntry (l : Lane) (p : TunePlan) (now : Time) : Lane :=
  { l with
    phase := .seek
    lastChange := now
    tap := { setting := some { centre := p.centre, bandwidth := p.bandwidth, mast := l.activeMast }, hit := false }
    recognizer := .cleared
    tracker := .cleared
    lockIn := 0
    fadeRun := 0
    recoverRun := 0
    hold := 0
    seekTimer := some (now + BitVec.ofNat 48 (p.seekLimit * 10000))
    surveyTimer := none
    switchOrder := none
    firstAfterLock := false }

/-- The part after such an entry: the survey request withdrawn, the record owed, LANE under the state flag (R54). -/
def State.afterSeekEntry (s : State) (n : LaneId) (l : Lane) (p : TunePlan) : State :=
  (((s.setLane n (l.afterSeekEntry p s.time)).withdrawRequest n).oweLane n).raiseIf p.notify.state .lane

/-- The part after a take's own steps: applied tag, nothing pending, the TAKEN image owed, the record owed (R108). -/
def State.afterTake (s : State) (n : LaneId) (tag : Tag) (adjusted : BitVec 16) : State :=
  ((s.setLane n { s.lane n with appliedTag := tag, pendingPlan := none, applyWindow := none }).setAnswer n
    { s.answer n with
      image := { mark := .taken, appliedTag := tag, reason := .none, adjusted := adjusted, timeAtTake := s.time }
      owed := true }).oweLane n

/-- The lane after an applied STOP (R67): in OFF, with its active mast; stamped unless it was in OFF before. -/
def Lane.afterStop (l : Lane) (now : Time) : Lane :=
  { Lane.reset with
    appliedTag := l.appliedTag
    activeMast := l.activeMast
    pendingPlan := l.pendingPlan
    applyWindow := l.applyWindow
    lastChange := if l.phase = .off then l.lastChange else now }

/-- The part after an applied STOP (R67, R73): the survey request withdrawn, the last survey mean none, LANE under the STOP's state flag
unless the lane was in OFF before. -/
def State.afterStop (s : State) (n : LaneId) (notify : NotifyFlags) : State :=
  let t := (s.setLane n ((s.lane n).afterStop s.time)).withdrawRequest n
  State.raiseIf { t with survey := { t.survey with lastMean := t.survey.lastMean.set n none } }
    (decide ((s.lane n).phase ≠ .off) && notify.state) .lane

/-- The part after a retune, or a TUNE applied in OFF: SEEK is entered under the new plan, on the mast it names (R55). -/
def State.afterRetune (s : State) (n : LaneId) (p : TunePlan) : State :=
  s.afterSeekEntry n { s.lane n with applied := some p, activeMast := p.mastPolicy.start } p

/-- The lane after a parameter update (R66): a fixed policy stops the survey-interval timer and drops a switch order (R92). -/
def Lane.afterUpdate (l : Lane) (p : TunePlan) (now : Time) : Lane :=
  { l with
    applied := some p
    lockIn := 0
    fadeRun := 0
    recoverRun := 0
    surveyTimer := if (l.phase = .lock ∨ l.phase = .fade) ∧ p.mastPolicy.isAuto = true
      then some (now + BitVec.ofNat 48 (p.surveyInterval * 1000000)) else none
    switchOrder := if p.mastPolicy.isAuto = true then l.switchOrder else none }

/-- The part after a parameter update: under a fixed policy the survey request is withdrawn (R66). -/
def State.afterUpdate (s : State) (n : LaneId) (p : TunePlan) : State :=
  let t := s.setLane n ((s.lane n).afterUpdate p s.time)
  if p.mastPolicy.isAuto = true then t else t.withdrawRequest n

/-- `t` is the part after the take of a plan by lane n (R110): a STOP, a TUNE in OFF or a retune, a parameter update. -/
def Takes (s : State) (n : LaneId) (plan : AcceptedPlan) (t : State) : Prop :=
  match plan with
  | .stop tag notify => t = (s.afterStop n notify).afterTake n tag 0
  | .tune tag p adjusted =>
    ((s.lane n).phase = .off → t = (s.afterRetune n p).afterTake n tag adjusted) ∧
    ∀ old, (s.lane n).phase ≠ .off → (s.lane n).applied = some old →
      (isRetune s.station.modes (s.lane n).activeMast old p = true → t = (s.afterRetune n p).afterTake n tag adjusted) ∧
      (isRetune s.station.modes (s.lane n).activeMast old p = false → t = (s.afterUpdate n p).afterTake n tag adjusted)

/-- The Survey Unit once a request's dwell has started and `queue` is left waiting (R82). -/
def SurveyUnit.serving (u : SurveyUnit) (queue : List SurveyRequest) (n : LaneId) (cls : SurveyClass) (p : TunePlan) (mast : Mast) :
    SurveyUnit :=
  { u with
    queue := queue
    dwell := some { lane := n, cls := cls, mast := mast, length := p.dwell, settling := 0, sampled := 0, sum := 0, count := 0, hits := 0 }
    tap := { setting := some { centre := p.centre, bandwidth := p.bandwidth, mast := mast }, hit := false } }

/-- `v` is the part after the Survey Unit's choice in `u`, in which no dwell runs (R80 to R82): the chosen request among those whose lane has no
waiting switch order is taken from the queue and its dwell starts; with none of them nothing changes. -/
def NextChoice (u v : State) : Prop :=
  ∀ chosen, chosen = chooseRequest u.station.surveyOrder (u.survey.queue.filter fun r => (u.lane r.lane).switchOrder.isNone) →
    (chosen = none → v = u) ∧
    ∀ r p, chosen = some r → (u.lane r.lane).applied = some p →
      v = { u with survey := u.survey.serving (u.survey.queue.erase r) r.lane r.cls p (opposite (u.lane r.lane).activeMast) }

/-- A LOCK-class dwell of the lane of `d` runs while an eligible FADE-class request of another lane waits (R86). -/
def State.preempts (u : State) (d : Dwell) : Prop :=
  d.cls = .lock ∧ ∃ r ∈ u.survey.queue, r.cls = .fade ∧ r.lane ≠ d.lane ∧ (u.lane r.lane).switchOrder = none

/-- `v` is the part after the Survey Unit has looked at its queue in `u`: a choice while no dwell runs (R80), a preemption, the request back at the
head, and then a choice (R86), and else nothing. -/
def SurveyUnitActs (u v : State) : Prop :=
  (u.survey.dwell = none → NextChoice u v) ∧
  ∀ d, u.survey.dwell = some d →
    (u.preempts d →
      NextChoice { u with survey := { u.survey with queue := { lane := d.lane, cls := .lock } :: u.survey.queue, dwell := none, tap := .idle } } v) ∧
    (¬u.preempts d → v = u)

/-- The lanes with a survey request pending: those waiting, then the one whose dwell runs (R73). -/
def State.surveyed (s : State) : List LaneId :=
  s.survey.queue.map SurveyRequest.lane ++ (s.survey.dwell.map Dwell.lane).toList

/-- `v` is the part after lane n's survey request has been withdrawn in `s` (R78): its request alone leaves the queue, the rest keep their order;
its dwell is abandoned, with the tap idle and the last survey mean as it stood, and the next choice is made. Without a request nothing
changes. -/
def Withdraws (s : State) (n : LaneId) (v : State) : Prop :=
  ∀ rest, rest = s.survey.queue.filter (fun r => r.lane != n) →
    (n ∉ s.surveyed → v = s) ∧
    (n ∈ s.surveyed → (∀ d, s.survey.dwell = some d → d.lane ≠ n) →
      SurveyUnitActs { s with survey := { s.survey with queue := rest } } v) ∧
    ∀ d, s.survey.dwell = some d → d.lane = n →
      NextChoice { s with survey := { s.survey with queue := rest, dwell := none, tap := .idle } } v

/-- The stream after an entry to CLOSED (R150). -/
def StreamWriter.afterClosedEntry (w : StreamWriter) : StreamWriter :=
  { w with
    phase := .closed
    owed := true
    position := .none
    current := none
    flushTimer := none
    flushWaits := false
    job := .none
    recheck := none }

/-- The stream after it has starved while draining (R150). -/
def StreamWriter.afterStarvedDrain (w : StreamWriter) : StreamWriter :=
  { w.afterClosedEntry with
    fifo := []
    counters := { w.counters with droppedStarved := satAdd w.counters.droppedStarved w.fifo.length } }

/-- The stream once the close of a buffer has begun in OPEN or CLOSING (R145, R146). -/
def StreamWriter.afterCloseBegun (w : StreamWriter) (b : HeldBuffer) (filled : Nat) (stamp : Option Time) (reason : CloseReason) :
    StreamWriter :=
  { w with
    flushTimer := none
    flushWaits := false
    position := .closingBuffer
    job := .closingFields { address := b.address, nextRecord := b.nextRecord, filled := filled, stamp := stamp, reason := reason } }

/-- The stream after the counts of a completed close (R146, steps 1 and 4). -/
def StreamWriter.afterCloseCounted (w : StreamWriter) : StreamWriter :=
  { w with
    counters := { w.counters with buffersClosed := satInc w.counters.buffersClosed }
    sequence := w.sequence + 1
    current := none
    owed := true
    job := .none }

/-- The stream with the four fields of a fetch (R139). -/
def StreamWriter.withFetched (w : StreamWriter) (f : StreamFetch) : StreamWriter :=
  { w with
    priority := f.priority
    faultPolicy := f.faultPolicy
    flushInterval := f.flushInterval
    notifyOnClose := f.notifyOnClose
    owed := true }

/-- The stream that is to read the record at an address (R141, R148). -/
def StreamWriter.afterReadWanted (w : StreamWriter) (a : Addr) : StreamWriter :=
  { w with job := .read a, currentRecord := a, owed := true }

/-- `v` is stream `w` after a request CLOSE, with a head address to check at end-of-chain (R149, R150; in STARVED a check not yet granted
counts as in flight: log entry 34; its position and a bad record: log entries 8 and 30). -/
def TakesClose (w : StreamWriter) (head : Addr) (v : StreamWriter) : Prop :=
  (w.phase = .closed ∨ w.phase = .closing → v = { w with owed := true }) ∧
  (w.phase = .halted → v = w.afterClosedEntry) ∧
  (w.phase = .opened → w.position ≠ .holding ∨ w.fifo ≠ [] ∨ w.inFlight.isSome = true → v = { w with phase := .closing, owed := true }) ∧
  (∀ b, w.phase = .opened → w.position = .holding → w.fifo = [] → w.inFlight = none → w.job = .none → w.current = some b →
    v = if b.filled = 0 then { w with phase := .closing, owed := true, job := .emptyMark b.address }
      else StreamWriter.afterCloseBegun { w with phase := .closing, owed := true } b b.filled b.stamp .close) ∧
  (w.phase = .starved → w.job = .none → w.fifo = [] → v = w.afterClosedEntry) ∧
  (∀ a, w.phase = .starved → w.job = .none → w.fifo ≠ [] → w.position = .waitingOn a ∨ w.position = .waitingAtEnd ∧ head = a ∧ a ≠ 0 →
    v = { w.afterReadWanted a with phase := .closing, position := .readingAt a }) ∧
  (w.phase = .starved → w.job = .none → w.fifo ≠ [] → w.position = .waitingAtEnd → head = 0 → v = w.afterStarvedDrain) ∧
  ∀ position, w.phase = .starved →
    (∃ a, w.job = .read a ∧ position = .readingAt a) ∨ (∃ b, w.job = .filling b ∧ position = .readingAt b.address) ∨
      (∃ c, (w.job = .closingFields c ∨ w.job = .mark c) ∧ position = .closingBuffer) →
    v = { w with phase := .closing, owed := true, position := position, recheck := none }

/-- `v` is stream `w` once its final counters are to stand in its write-back (R156): in CLOSED or HALTED it owes one when the one issued last
carries other counters, and else nothing changes (log entry 31). -/
def OwesFinalCounts (w v : StreamWriter) : Prop :=
  (w.phase = .closed ∨ w.phase = .halted → w.counters ≠ w.reported → v = { w with owed := true }) ∧
  ((w.phase ≠ .closed ∧ w.phase ≠ .halted) ∨ w.counters = w.reported → v = w)

/-- The part after a stream has taken a fetch: the port free, the Plan Fetcher's item over (R138). -/
def State.afterFetch (s : State) (n : StreamId) (w : StreamWriter) : State :=
  State.setStream { s.freePort with fetcher := { s.fetcher with item := none } } n w

/-! ### Invariants -/

/-- The clamped fields of a plan are in their ranges, QU is below QL, and the channel lies in the band (R51, R93, R98). -/
def TunePlan.inRange (p : TunePlan) : Prop :=
  (p.bandwidth = 6 ∨ p.bandwidth = 7 ∨ p.bandwidth = 8) ∧
  174000 + 500 * p.bandwidth ≤ p.centre ∧ p.centre + 500 * p.bandwidth ≤ 862000 ∧
  1 ≤ p.lockThreshold ∧ p.lockThreshold ≤ 127 ∧ p.unlockThreshold < p.lockThreshold ∧
  1 ≤ p.lockCount ∧ p.lockCount ≤ 63 ∧ 1 ≤ p.fadeCount ∧ p.fadeCount ≤ 63 ∧ 1 ≤ p.recoverCount ∧ p.recoverCount ≤ 63 ∧
  16 ≤ p.holdLimit ∧ p.holdLimit ≤ 65535 ∧ 1 ≤ p.smoothing ∧ p.smoothing ≤ 6 ∧ p.blankLimit ≤ 15 ∧
  1 ≤ p.seekLimit ∧ p.seekLimit ≤ 255 ∧ 1 ≤ p.surveyInterval ∧ p.surveyInterval ≤ 255 ∧
  8 ≤ p.dwell ∧ p.dwell ≤ 255 ∧ 1 ≤ p.margin ∧ p.margin ≤ 31

/-- Every plan a lane holds, applied or pending, is in range. -/
def PlansInRange (s : State) : Prop :=
  ∀ n : LaneId, (∀ p, (s.lane n).applied = some p → p.inRange) ∧
    ∀ tag p mask, (s.lane n).pendingPlan = some (.tune tag p mask) → p.inRange

/-- The figures of quality stay in their ranges (R32, R42, R73, R75). -/
def QualityInRange (s : State) : Prop :=
  (∀ n : LaneId, (s.lane n).tracker.qacc ≤ 32512 ∧ (s.lane n).tracker.lastRaw ≤ 127 ∧ (s.lane n).tracker.hits ≤ 255 ∧
      (∀ m, (s.lane n).switchOrder = some m → m ≤ 127) ∧ ∀ m, s.survey.lastMean[n] = some m → m ≤ 127) ∧
    ∀ d, s.survey.dwell = some d → d.sum ≤ 127 * d.count ∧ d.hits ≤ 255

/-- The Router Queue and the Stream FIFOs stay within their capacities, no packet stays in hand between two steps (R115, R117, R143). -/
def QueuesBounded (s : State) : Prop :=
  s.router.queue.length ≤ 24 ∧ s.router.inHand = none ∧ ∀ n : StreamId, (s.stream n).fifo.length ≤ 32

/-- A stream in CLOSED or HALTED has no chain position, no buffer and no Buffer Record transfer (R150, R153), and in STOPPING its counters stand
in its write-back or one is owed (R156); a STARVED stream holds no buffer to write into (R148); and the stream of a slot write in flight is in
OPEN or CLOSING (R162). -/
def StreamsAtRest (s : State) : Prop :=
  ∀ n : StreamId,
    ((s.stream n).phase = .closed ∨ (s.stream n).phase = .halted →
      (s.stream n).position = .none ∧ (s.stream n).current = none ∧ (s.stream n).job = .none ∧
      (s.link.device = .stopping → (s.stream n).counters = (s.stream n).reported ∨ (s.stream n).owed = true)) ∧
    ((s.stream n).phase = .starved → (s.stream n).position ≠ .holding) ∧
    ∀ t, s.carries t (.slotWrite n) → (s.stream n).phase = .opened ∨ (s.stream n).phase = .closing

/-- Each requester has at most one class-1 request outstanding: none waits twice, and none waits while its transfer is in flight
(R159). -/
def RequestsSingle (s : State) : Prop :=
  s.arbiter.queue.Nodup ∧ ∀ k r, s.inFlight = some k → k.requester = some r → r ∉ s.arbiter.queue

/-- The lane tap is set to the plan's channel on the lane's active mast, and a fixed policy names that mast (section 1.2, R52). -/
def Lane.tapFollows (l : Lane) (p : TunePlan) : Prop :=
  l.tap.setting = some { centre := p.centre, bandwidth := p.bandwidth, mast := l.activeMast } ∧
    (p.mastPolicy.isAuto = false → l.activeMast = p.mastPolicy.start)

/-- The recognised entry is a usable one (R21, R50). -/
def Lane.modeKnown (l : Lane) (modes : ModeTable) : Prop :=
  ∃ c : EntryId, l.recognizer.recognised = some c ∧ modes[c].isSome = true

/-- No pending plan and no apply window (R94). -/
def Lane.nothingPending (l : Lane) : Prop :=
  l.pendingPlan = none ∧ l.applyWindow = none

/-- What a lane in LOCK or FADE holds (R50, R64, R75, R94). -/
def Lane.delivering (l : Lane) (modes : ModeTable) : Prop :=
  ∃ p, l.applied = some p ∧ l.tapFollows p ∧ l.modeKnown modes ∧ l.tracker.seeded = true ∧ l.seekTimer = none ∧
    (l.surveyTimer.isSome = true → p.mastPolicy.isAuto = true) ∧ (l.switchOrder.isSome = true → p.mastPolicy.isAuto = true) ∧
    l.applyWindow.isSome = l.pendingPlan.isSome

/-- The lane state fixes the condition of the lane's other parts (R50). -/
def Lane.sound (l : Lane) (modes : ModeTable) : Prop :=
  match l.phase with
  | .off => l.applied = none ∧ l.nothingPending ∧ l.tap = .idle ∧ l.recognizer = .cleared ∧ l.tracker = .cleared ∧
      l.seekTimer = none ∧ l.surveyTimer = none ∧ l.switchOrder = none ∧ l.firstAfterLock = false
  | .seek => ∃ p, l.applied = some p ∧ l.tapFollows p ∧ l.nothingPending ∧ l.recognizer.recognised = none ∧
      l.tracker.seeded = false ∧ l.tracker.qacc = 0 ∧ l.seekTimer.isSome = true ∧ l.surveyTimer = none ∧
      l.switchOrder = none ∧ l.firstAfterLock = false
  | .track => ∃ p, l.applied = some p ∧ l.tapFollows p ∧ l.nothingPending ∧ l.modeKnown modes ∧
      l.seekTimer.isSome = true ∧ l.surveyTimer = none ∧ l.switchOrder = none ∧ l.firstAfterLock = false
  | .lock => l.delivering modes
  | .fade => l.delivering modes

/-- A lane that may have a survey request: in LOCK or FADE under an AUTO policy (R79). -/
def Lane.surveyable (l : Lane) : Prop :=
  l.phase.delivers = true ∧ ∃ p, l.applied = some p ∧ p.mastPolicy.isAuto = true

/-- The survey tap is set while a dwell runs, to the surveyed lane's channel on the mast opposite its active mast (R7, R73). -/
def SurveyTapSound (s : State) : Prop :=
  match s.survey.dwell with
  | none => s.survey.tap.setting = none
  | some d => d.mast = opposite (s.lane d.lane).activeMast ∧ (s.lane d.lane).switchOrder = none ∧
      ∃ p, (s.lane d.lane).applied = some p ∧
        s.survey.tap.setting = some { centre := p.centre, bandwidth := p.bandwidth, mast := d.mast }

/-- The Survey Unit has nothing left to do: while no dwell runs no eligible request waits (R80), and while a LOCK-class dwell runs no
eligible FADE-class request of another lane does (R86). A request is eligible when its lane has no waiting switch order. -/
def SurveySettled (s : State) : Prop :=
  (s.survey.dwell = none → ∀ r ∈ s.survey.queue, (s.lane r.lane).switchOrder.isSome = true) ∧
    ∀ d, s.survey.dwell = some d → d.cls = .lock → ∀ r ∈ s.survey.queue, r.cls = .fade → r.lane ≠ d.lane →
      (s.lane r.lane).switchOrder.isSome = true

/-- Lane m holds plan q: applied, or pending (R99). -/
def State.holds (s : State) (m : LaneId) (q : TunePlan) : Prop :=
  (s.lane m).applied = some q ∨ ∃ tag mask, (s.lane m).pendingPlan = some (.tune tag q mask)

/-- Two channels share more than an edge and differ in centre or bandwidth: each low edge lies below the other's high edge (R99). -/
def ChannelsOverlap (c₁ b₁ c₂ b₂ : Nat) : Prop :=
  (c₁ : Int) - 500 * b₁ < c₂ + 500 * b₂ ∧ (c₂ : Int) - 500 * b₂ < c₁ + 500 * b₁ ∧ ¬(c₁ = c₂ ∧ b₁ = b₂)

/-- No two lanes hold plans whose channels overlap (R99). -/
def ChannelsApart (s : State) : Prop :=
  ∀ m n : LaneId, m ≠ n → ∀ q r, s.holds m q → s.holds n r → ¬ChannelsOverlap q.centre q.bandwidth r.centre r.bandwidth

/-- The reception side of the part is sound: every lane, the Survey Unit, and lanes OFF outside RUNNING (R18, R50, R79). -/
def ReceptionSound (s : State) : Prop :=
  (∀ n : LaneId, (s.lane n).sound s.station.modes) ∧ s.surveyed.Nodup ∧ (∀ n ∈ s.surveyed, (s.lane n).surveyable) ∧
    SurveyTapSound s ∧ (s.link.device ≠ .running → ∀ n : LaneId, (s.lane n).phase = .off)

/-- The low 12 bits of the Exchange Base are 0 (R167). -/
def BaseAligned (s : State) : Prop :=
  s.link.base.toNat % 4096 = 0

end Sys2Proof.Machine
end

