-- ==== Sys2Proof/Certificates/Slice0/Obligations.lean ====
section
/-! DEFINITION. The statements for the provers. OBLIGATIONS.json lists them with the rules they rest on. In a completion statement `Gives c s u`
says that the command answers a next state, and which: `u` with STATUS-NOW taken where it is first in turn, and with the requests
placed that the new state calls for; so everything `u` leaves alone is left alone (the frame). -/

open Sys2Proof Sys2Proof.Machine

/-! ### The part as a machine -/

/-- Asked of a block in place of a fetch: a step runs the command at the front of the queue on the state with the queue's rest. -/
def Obligations.StepRunsFrontCommand : Prop :=
  ∀ (c : Instr) (rest : List Instr) (s : State), s.pending = c :: rest → step s = exec c { s with pending := rest }

/-- No command stops the part, and none touches the queue of waiting commands. That a command whose event cannot arise still answers a next
state is the model's choice of log entry 3; that the waiting commands are kept, through resets too, that of log entries 11 and 13. -/
def Obligations.EveryCommandGivesNextState : Prop :=
  ∀ (c : Instr) (s : State), ∃ t, exec c s = .next t ∧ t.pending = s.pending

/-- Events that a state does not raise change nothing (log entry 3): a completion of a transfer that is not in flight, a timer short of its
deadline, a report or packet of a tap or core that delivers none, a grant while the port is busy, and the rest. And on an empty queue the
part idles (log entry 10). -/
def Obligations.EventThatDoesNotAriseChangesNothing : Prop :=
  ∀ (s : State),
    (∀ c, (∃ k, ends c k = true) → (∀ t, s.arbiter.port = some t → ends c t.kind = false) → exec c s = .next s) ∧
    (∀ n, (s.lane n).seekTimer ≠ some s.time → exec (.seekTimerExpiry n) s = .next s) ∧
    (∀ n, (s.lane n).surveyTimer ≠ some s.time → exec (.surveyIntervalExpiry n) s = .next s) ∧
    (∀ n, (s.lane n).applyWindow ≠ some s.time → exec (.applyWindowExpiry n) s = .next s) ∧
    (∀ n, (s.stream n).flushTimer ≠ some s.time → exec (.flushTimerExpiry n) s = .next s) ∧
    (s.status.intervalTimer ≠ some s.time → exec .statusIntervalExpiry s = .next s) ∧
    (∀ n period signal error frame, (s.lane n).phase = .off → exec (.symbolReport n period signal error frame) s = .next s) ∧
    (∀ n packet m un cor, (s.lane n).phase = .off ∨ (s.lane n).phase = .seek → exec (.packetGate n packet m un cor) s = .next s) ∧
    (∀ signal error, s.survey.dwell = none → exec (.surveyReport signal error) s = .next s) ∧
    (s.router.queue = [] → exec .routePacket s = .next s) ∧
    ((∀ table, s.router.shadow ≠ .ready table) → exec .filterSwap s = .next s) ∧
    (s.arbiter.port.isSome = true → exec .transferGrant s = .next s) ∧
    (s.link.device ≠ .stopping → exec .stopComplete s = .next s) ∧
    (s.pending = [] → step s = .next s)

/-- The requests placed at the end of a command are those of the requesters that have something to transfer and none outstanding (R159, R160,
R174). Before that STATUS-NOW is taken, exactly where it is the only item left and none is in hand, in RUNNING (R172; log entry 27): all
thirteen Status Records become owed (R173). Which requests the next grant may be taken before: log entry 2. A transfer abandoned by a soft
reset is no outstanding request: log entry 35. -/
def Obligations.SettlePlacesRequests : Prop :=
  (∀ s : State, Placed s.takeStatusNow s.settle) ∧
  ∀ s : State,
    (s.link.device = .running → s.fetcher.item = none → s.fetcher.pendingSet.statusNow = true →
      (∀ n : LaneId, s.fetcher.pendingSet.lanes[n] = false) → s.fetcher.pendingSet.filter = false →
      (∀ n : StreamId, s.fetcher.pendingSet.streams[n] = false) →
      s.takeStatusNow = { s with
        fetcher := { s.fetcher with pendingSet := { s.fetcher.pendingSet with statusNow := false } }
        status := { s.status with stationOwed := true, lanesOwed := Vector.replicate 12 true } }) ∧
    (s.link.device ≠ .running ∨ s.fetcher.item ≠ none ∨ s.fetcher.pendingSet.statusNow = false ∨
      (∃ n : LaneId, s.fetcher.pendingSet.lanes[n] = true) ∨ s.fetcher.pendingSet.filter = true ∨
      (∃ n : StreamId, s.fetcher.pendingSet.streams[n] = true) →
      s.takeStatusNow = s)

/-! ### Resets -/

/-- The reset state in its own terms (values the spec gives: R2, R18, R49, R73, R94, R115, R137, R160, R163, R165, R168, R178). -/
def Obligations.ResetValues : Prop :=
  State.reset.time = 0 ∧ State.reset.link = { LinkPort.reset with device := .idle, run := false, loadFault := .none, base := 0, notice := 0, enable := 0, linkErrors := 0 } ∧
    (∀ n, (State.reset.lane n).phase = .off ∧ (State.reset.lane n).applied = none ∧ (State.reset.lane n).appliedTag = 0 ∧
      (State.reset.lane n).activeMast = .a ∧ (State.reset.lane n).counters = .zero) ∧
    (∀ n, (State.reset.stream n).phase = .closed ∧ (State.reset.stream n).priority = 7 ∧ (State.reset.stream n).faultPolicy = .halt ∧
      (State.reset.stream n).fifo = [] ∧ (State.reset.stream n).counters = .zero) ∧
    State.reset.survey.queue = [] ∧ State.reset.router.queue = [] ∧ State.reset.router.version = 0 ∧
    State.reset.arbiter.queue = [] ∧ State.reset.arbiter.rotation = 15 ∧ State.reset.arbiter.port = none ∧
    State.reset.station.trimA = 0 ∧ State.reset.station.thresholdA = 0 ∧ State.reset.station.surveyOrder = .arrival ∧
    State.reset.link.lastFault = { kind := .none, requester := .planFetcher, address := 0, time := 0 }

/-- R178: power-on reset puts every reset value, and what is not the part's own is kept (log entry 11). Soft reset puts the same values, keeping
the Exchange Base and the Station Timer; a transfer on the link stays there, abandoned (R166). -/
def Obligations.ResetsPutResetValues : Prop :=
  (∀ s : State, exec .powerOnReset s = .next { State.reset with output := s.output, picks := s.picks, pending := s.pending }) ∧
  (∀ s : State, exec .softReset s =
    .next { State.reset with
      time := s.time
      link := { LinkPort.reset with base := s.link.base }
      arbiter := { queue := [], rotation := 15, port := s.arbiter.port.map fun t => { t with abandoned := true }, fresh := 0, handedTo := none }
      output := s.output, picks := s.picks, pending := s.pending })

/-- R166: the completion of a transfer granted before a soft reset frees the port and reaches no requester, error or not. -/
def Obligations.AbandonedTransferIsHandedToNobody : Prop :=
  ∀ (c : Instr) (s : State) (t : Transfer), s.arbiter.port = some t → t.abandoned = true → ends c t.kind = true →
    ∃ u, exec c s = .next u ∧ u.arbiter = { s.arbiter with port := none } ∧
      { u with arbiter := s.arbiter, output := s.output } = s

/-- What the Link Port does at a link error (R165), and that nothing else but a reset touches the count and the last fault. That a Filter
Table read error completing in STOPPING is no exception, in spite of R135's words on the abandonment, is the model's reading of log entry 19. -/
def Obligations.LinkErrorIsRecorded : Prop :=
  (∀ (c : Instr) (s : State) (t : Transfer) (kind : FaultKind), s.carries t t.kind → ends c t.kind = true → errorOf c = some kind →
    ∃ u, exec c s = .next u ∧ u.link.linkErrors.toNat = min (s.link.linkErrors.toNat + 1) 4294967295 ∧
      u.link.lastFault = { kind := kind, requester := t.kind.faultRequester, address := t.address.setWidth 32, time := s.time } ∧
      u.link.notice.getLsbD 5 = true) ∧
  (∀ (c : Instr) (s u : State), errorOf c = none → c ≠ .softReset → c ≠ .powerOnReset → exec c s = .next u →
    u.link.linkErrors = s.link.linkErrors ∧ u.link.lastFault = s.link.lastFault) ∧
  (∀ (c : Instr) (s : State), c = .softReset ∨ c = .powerOnReset → ∃ u, exec c s = .next u ∧ u.link.linkErrors = 0 ∧
    u.link.lastFault = { kind := .none, requester := .planFetcher, address := 0, time := 0 })

/-! ### Masts and the Station Timer -/

/-- An impulse event (R9 to R11): counted on its mast, marking every tap set to that mast and no other; nothing else changes. -/
def Obligations.ImpulseEventMarksTaps : Prop :=
  ∀ (s : State) (m : Mast) (magnitude : Fin 257),
    s.link.device = .running ∨ s.link.device = .stopping → 0 < s.station.threshold m →
    s.station.threshold m < magnitude.val → (s.front m).above = false →
    ∃ t, exec (.impulseEvent m magnitude) s = .next t ∧
      (t.front m).count.toNat = min ((s.front m).count.toNat + 1) 4294967295 ∧ (t.front m).above = true ∧
      t.front (opposite m) = s.front (opposite m) ∧
      (∀ n, t.lane n = { s.lane n with tap := { (s.lane n).tap with
        hit := (s.lane n).tap.hit || decide ((s.lane n).tap.setting.map TapSetting.mast = some m) } }) ∧
      t.survey = { s.survey with tap := { s.survey.tap with
        hit := s.survey.tap.hit || decide (s.survey.tap.setting.map TapSetting.mast = some m) } } ∧
      { t with mastA := s.mastA, mastB := s.mastB, lanes := s.lanes, survey := s.survey } = s

/-- R9: no event with the detector off, with a magnitude at or below the threshold, or inside an excursion; and MAGNITUDE_FALLS_BACK, a fall to
the threshold or below, ends the excursion of that mast alone. -/
def Obligations.ExcursionBoundsEvents : Prop :=
  (∀ (s : State) (m : Mast) (magnitude : Fin 257),
    (s.link.device ≠ .running ∧ s.link.device ≠ .stopping) ∨ s.station.threshold m = 0 ∨
      magnitude.val ≤ s.station.threshold m ∨ (s.front m).above = true →
    exec (.impulseEvent m magnitude) s = .next s) ∧
  (∀ (s : State) (magnitude : Fin 257), s.link.device = .running ∨ s.link.device = .stopping →
      (magnitude.val ≤ s.station.thresholdA → exec (.magnitudeFallsBack .a magnitude) s =
        .next { s with mastA := { s.mastA with above := false } }) ∧
      (magnitude.val ≤ s.station.thresholdB → exec (.magnitudeFallsBack .b magnitude) s =
        .next { s with mastB := { s.mastB with above := false } }))

/-- R12: the tick adds 1 and wraps from 2^48 − 1 to 0, in every device state; power-on reset sets 0; no other command touches it; no register
reads it. -/
def Obligations.StationTimerCounts : Prop :=
  (∀ s : State, ∃ t, exec .stationTimerTick s = .next t ∧
    t.time.toNat = (if s.time.toNat = 281474976710655 then 0 else s.time.toNat + 1) ∧ { t with time := s.time } = s) ∧
  (∀ s : State, ∃ t, exec .powerOnReset s = .next t ∧ t.time = 0) ∧
  (∀ (c : Instr) (s t : State), c ≠ .stationTimerTick → c ≠ .powerOnReset → exec c s = .next t → t.time = s.time) ∧
  (∀ (s : State) (x : Time) (offset : BitVec 8), { s with time := x }.readRegister offset = s.readRegister offset)

/-! ### Mode recognition and quality -/

/-- R33: the level function, its range, and that it is non-decreasing. -/
def Obligations.LevelFunction : Prop :=
  (∀ x p : Nat, 1 ≤ x → x ≤ 65535 → 2 ^ p ≤ x → x < 2 ^ (p + 1) →
    level x = (if 3 ≤ p then 8 * p + (x / 2 ^ (p - 3) - 8) else 8 * p + (x * 2 ^ (3 - p) - 8)) ∧ level x ≤ 127) ∧
  ∀ x y : Nat, 1 ≤ x → x ≤ y → y ≤ 65535 → level x ≤ level y

/-- R34: the raw sample. -/
def Obligations.RawSample : Prop :=
  ∀ signal error : BitVec 16,
    (signal = 0 → rawSample signal error = 0) ∧
    (signal ≠ 0 → error = 0 → rawSample signal error = 127) ∧
    (signal ≠ 0 → error ≠ 0 → level error.toNat ≤ level signal.toNat →
      rawSample signal error + level error.toNat = level signal.toNat) ∧
    (signal ≠ 0 → error ≠ 0 → level signal.toNat < level error.toNat → rawSample signal error = 0) ∧
    rawSample signal error ≤ 127

/-- R35: the trimmed sample. R40, R41: the first used sample seeds Qacc with 256 × s, a later one adds (256 × s − Qacc) / 2^k truncated toward
zero. R43: an update stalls only within 2^k of 256 × s, and a stalled accumulator reads s. -/
def Obligations.AccumulatorMovesAndRests : Prop :=
  (∀ qacc sample k : Nat, 1 ≤ k → k ≤ 6 → sample ≤ 127 → qacc ≤ 32512 →
    (qacc ≤ 256 * sample → accumulate qacc sample k = qacc + (256 * sample - qacc) / 2 ^ k) ∧
    (256 * sample ≤ qacc → accumulate qacc sample k = qacc - (qacc - 256 * sample) / 2 ^ k)) ∧
  (∀ (t : QualityTracker) (sample k : Nat), t.seeded = true → 1 ≤ k → k ≤ 6 → sample ≤ 127 → t.qacc ≤ 32512 →
    accumulate t.qacc sample k = t.qacc →
    t.qi = sample ∧ t.qacc < 256 * sample + 2 ^ k ∧ 256 * sample < t.qacc + 2 ^ k) ∧
  (∀ (raw : Nat) (trim : Int), ((raw : Int) + trim < 0 → trimmedSample raw trim = 0) ∧
    (0 ≤ (raw : Int) + trim → (raw : Int) + trim ≤ 127 → (trimmedSample raw trim : Int) = raw + trim) ∧
    ((127 : Int) < raw + trim → trimmedSample raw trim = 127)) ∧
  ∀ (t : QualityTracker) (raw sample k : Nat),
    (t.seeded = false → t.take raw sample k = { t with seeded := true, qacc := 256 * sample, lastRaw := raw }) ∧
    (t.seeded = true → t.take raw sample k = { t with qacc := accumulate t.qacc sample k, lastRaw := raw })

/-- R42: Qacc stays within 0..32512 and the other quality figures in their ranges, whatever command is taken. -/
def Obligations.QualityKeptInRange : Prop :=
  ∀ s t : State, QualityInRange s → step s = .next t →
    QualityInRange t ∧ ∀ n, (t.lane n).tracker.qi ≤ 127

/-- The candidate search on a non-excused report (R19, R22 to R25): which entries are allowed, match and are formed; matching, recognising,
missing, dropping. -/
def Obligations.CandidateSearch : Prop :=
  (∀ (modes : ModeTable) (policy : ModePolicy) (period : Nat) (m : EntryId),
    (m ∈ allowedSet modes policy ↔ modes[m].isSome = true ∧ (policy = .auto ∨ policy = .fixed m)) ∧
    (entryContains modes period m = true ↔ ∃ e, modes[m] = some e ∧ ((period : Int) - e.period).natAbs ≤ e.tolerance) ∧
    (lowestMatch modes (allowedSet modes policy) period = some m ↔ m ∈ allowedSet modes policy ∧ entryContains modes period m = true ∧
      ∀ k ∈ allowedSet modes policy, entryContains modes period k = true → m ≤ k)) ∧
  ∀ (r : Recognizer) (modes : ModeTable) (allowed : List EntryId) (period : Nat),
    (r.candidate = none → (∀ m ∈ allowed, entryContains modes period m = false) → r.search modes allowed period = (r, .quiet)) ∧
    (∀ m, r.candidate = none → lowestMatch modes allowed period = some m → r.search modes allowed period =
      ({ r with candidate := some m, matchesHeld := 1, missesHeld := 0 }, .quiet)) ∧
    (∀ c e, r.candidate = some c → modes[c] = some e → e.contains period = true → r.matchesHeld + 1 < e.matchCount →
      r.search modes allowed period = ({ r with matchesHeld := r.matchesHeld + 1, missesHeld := 0 }, .quiet)) ∧
    (∀ c e, r.candidate = some c → modes[c] = some e → e.contains period = true → e.matchCount ≤ r.matchesHeld + 1 →
      r.search modes allowed period =
        ({ candidate := none, matchesHeld := 0, missesHeld := 0, recognised := some c, lossCount := 0 }, .recognition)) ∧
    (∀ c e, r.candidate = some c → modes[c] = some e → e.contains period = false → r.missesHeld + 1 < e.missCount →
      r.search modes allowed period = ({ r with missesHeld := r.missesHeld + 1 }, .quiet)) ∧
    (∀ c e, r.candidate = some c → modes[c] = some e → e.contains period = false → e.missCount ≤ r.missesHeld + 1 →
      ((r.search modes allowed period).1.candidate = lowestMatch modes allowed period ∧ (r.search modes allowed period).2 = .quiet ∧
        (r.search modes allowed period).1.candidate ≠ some c)) ∧
    (∀ c e, r.candidate = some c → modes[c] = some e → e.contains period = false → e.missCount ≤ r.missesHeld + 1 →
      r.search modes allowed period =
        (match lowestMatch modes allowed period with
          | some m => { r with candidate := some m, matchesHeld := 1, missesHeld := 0 }
          | none => { r with candidate := none, matchesHeld := 0, missesHeld := 0 }, .quiet))

/-- SYMBOL_REPORT completes on an excused report (R29, R36, R38, R53): b and the blanked count move, and in FADE the hold count. A frame-start
report with no plan pending is no different (R105). -/
def Obligations.ExcusedReportIsPassedOver : Prop :=
  ∀ (s : State) (n : LaneId) (p : TunePlan) (period : Fin 16384) (signal error : BitVec 16) (frame : Bool),
    (s.lane n).phase ≠ .off → (s.lane n).applied = some p → (s.lane n).tap.hit = true →
    (s.lane n).tracker.hits < p.blankLimit → p.blankLimit ≤ 15 → (s.lane n).switchOrder = none →
    ((s.lane n).phase = .fade → (s.lane n).hold + 1 < p.holdLimit) → frame = false ∨ (s.lane n).pendingPlan = none →
    Gives (.symbolReport n period signal error frame) s (s.setLane n { s.lane n with
      tap := { (s.lane n).tap with hit := false }
      tracker := { (s.lane n).tracker with hits := (s.lane n).tracker.hits + 1 }
      counters := { (s.lane n).counters with blankedSymbols := satInc (s.lane n).counters.blankedSymbols }
      hold := if (s.lane n).phase = .fade then (s.lane n).hold + 1 else (s.lane n).hold })

/-- SYMBOL_REPORT completes in SEEK on a report that is not excused: one that completes a recognition (R25, R56), SEEK to TRACK, no sample
taken; and any other, which moves the search alone (R22 to R24). And on every used sample in TRACK (R39 to R41, R57, R58): the first one seeds,
the lock-in count moves, at CL the lane enters LOCK. With or without a frame-start while no plan is pending (R105). -/
def Obligations.RecognitionEntersTrack : Prop :=
  (∀ (s : State) (n : LaneId) (p : TunePlan) (c : EntryId) (e : ModeEntry) (period : Fin 16384) (signal error : BitVec 16) (frame : Bool)
    (hits : Nat), (s.lane n).phase = .seek → frame = false ∨ (s.lane n).pendingPlan = none → TakenReport s n p hits →
    (s.lane n).recognizer.candidate = some c → s.station.modes[c] = some e → e.contains period.val = true →
    e.matchCount ≤ (s.lane n).recognizer.matchesHeld + 1 →
    Gives (.symbolReport n period signal error frame) s
      (((s.setLane n { s.lane n with
        phase := .track
        lastChange := s.time
        lockIn := 0
        tap := { (s.lane n).tap with hit := false }
        recognizer := { candidate := none, matchesHeld := 0, missesHeld := 0, recognised := some c, lossCount := 0 }
        tracker := { (s.lane n).tracker with seeded := false, qacc := 0, hits := hits } }).oweLane n).raiseIf p.notify.state .lane)) ∧
  (∀ (s : State) (n : LaneId) (p : TunePlan) (period : Fin 16384) (signal error : BitVec 16) (frame : Bool) (hits : Nat) (r : Recognizer),
    (s.lane n).phase = .seek → TakenReport s n p hits → (s.lane n).pendingPlan = none →
    (s.lane n).recognizer.search s.station.modes (allowedSet s.station.modes p.modePolicy) period.val = (r, .quiet) →
    Gives (.symbolReport n period signal error frame) s (s.setLane n { s.lane n with
      tap := { (s.lane n).tap with hit := false }
      recognizer := r
      tracker := { (s.lane n).tracker with hits := hits } })) ∧
  ∀ (s : State) (n : LaneId) (p : TunePlan) (period : Fin 16384) (signal error : BitVec 16) (frame : Bool) (u : UsedSample) (run : Nat),
    (s.lane n).phase = .track → UsedReport s n p period signal error u → (s.lane n).switchOrder = none →
    frame = false ∨ (s.lane n).pendingPlan = none → run = (if p.lockThreshold ≤ u.qi then (s.lane n).lockIn + 1 else 0) →
    (run < p.lockCount → Gives (.symbolReport n period signal error frame) s
      (s.setLane n { (s.lane n).afterUsed u with lockIn := run })) ∧
    (p.lockCount ≤ run → Gives (.symbolReport n period signal error frame) s
      (((s.setLane n { (s.lane n).afterUsed u with
        phase := .lock
        lastChange := s.time
        seekTimer := none
        fadeRun := 0
        lockIn := 0
        surveyTimer := if p.mastPolicy.isAuto = true then some (s.time + BitVec.ofNat 48 (p.surveyInterval * 1000000)) else (s.lane n).surveyTimer
        firstAfterLock := true }).oweLane n).raiseIf p.notify.state .lane))

/-- SYMBOL_REPORT completes on a used sample in LOCK (R39, R41, R59): the tracker and the fade count move, and at CF the lane enters FADE, under
an AUTO policy with its request (R77). And in FADE (R60, R61): the recover count moves, and at CR the lane is in LOCK again; that the hold
count counts this report and that a first-after-lock mark stays are the model's (log entries 23 and 29). The first clause is the report
without a hit in the window, written out; the second holds for every used sample, a hit at or above B and a period short of a mode loss
included (R27, R36). With or without a frame-start while no plan is pending (R105; with one: ApplyWindowExpiryTakesPlan), and with no switch
order waiting (with one: SurveyDwellEndDecides). -/
def Obligations.UsedReportInLockMovesQuality : Prop :=
  (∀ (s : State) (n : LaneId) (p : TunePlan) (c : EntryId) (e : ModeEntry) (set : TapSetting) (period : Fin 16384)
    (signal error : BitVec 16) (frame : Bool) (sample q : Nat),
    (s.lane n).phase = .lock → (s.lane n).applied = some p → (s.lane n).tap.hit = false → frame = false ∨ (s.lane n).pendingPlan = none →
    (s.lane n).tap.setting = some set → (s.lane n).tracker.seeded = true → (s.lane n).switchOrder = none →
    (s.lane n).recognizer.recognised = some c → s.station.modes[c] = some e → e.contains period.val = true →
    sample = trimmedSample (rawSample signal error) (s.station.trim set.mast) →
    q = accumulate (s.lane n).tracker.qacc sample p.smoothing →
    ((q + 128) / 256 < p.unlockThreshold → (s.lane n).fadeRun + 1 < p.fadeCount) → 0 < p.fadeCount →
    Gives (.symbolReport n period signal error frame) s (s.setLane n { s.lane n with
      tap := { (s.lane n).tap with hit := false }
      recognizer := { (s.lane n).recognizer with lossCount := 0 }
      tracker := { seeded := true, qacc := q, hits := 0, lastRaw := rawSample signal error }
      fadeRun := if (q + 128) / 256 < p.unlockThreshold then (s.lane n).fadeRun + 1 else 0 })) ∧
  ∀ (s v : State) (n : LaneId) (p : TunePlan) (period : Fin 16384) (signal error : BitVec 16) (frame : Bool) (u : UsedSample),
    UsedReport s n p period signal error u → UsedReportStays s n p u v → (s.lane n).switchOrder = none →
    frame = false ∨ (s.lane n).pendingPlan = none → Gives (.symbolReport n period signal error frame) s v

/-- SYMBOL_REPORT completes on a mode loss (R28, R54, R62), a hit report at or above B included (R36): the lane enters SEEK, its survey request
is withdrawn. And on the report, used or excused, that brings the hold count of a lane in FADE to H without a recovery (R61). And what the
withdrawal is (R78, R80), here and in the other statements that use it: the lane's request alone leaves the queue, or its dwell is
abandoned, and then the next choice is made. -/
def Obligations.ModeLossEntersSeek : Prop :=
  (∀ (s : State) (n : LaneId) (p : TunePlan) (c : EntryId) (e : ModeEntry) (period : Fin 16384) (signal error : BitVec 16) (frame : Bool)
    (hits : Nat),
    (s.lane n).phase = .track ∨ (s.lane n).phase = .lock ∨ (s.lane n).phase = .fade →
    TakenReport s n p hits → (s.lane n).pendingPlan = none →
    (s.lane n).recognizer.recognised = some c → s.station.modes[c] = some e → e.contains period.val = false →
    e.missCount ≤ (s.lane n).recognizer.lossCount + 1 →
    Gives (.symbolReport n period signal error frame) s
      ((((s.setLane n { s.lane n with
        phase := .seek
        lastChange := s.time
        tap := { setting := some { centre := p.centre, bandwidth := p.bandwidth, mast := (s.lane n).activeMast }, hit := false }
        recognizer := .cleared
        tracker := .cleared
        lockIn := 0
        fadeRun := 0
        recoverRun := 0
        hold := 0
        seekTimer := some (s.time + BitVec.ofNat 48 (p.seekLimit * 10000))
        surveyTimer := none
        switchOrder := none
        firstAfterLock := false }).withdrawRequest n).oweLane n).raiseIf p.notify.state .lane)) ∧
  (∀ (s : State) (n : LaneId) (p : TunePlan) (period : Fin 16384) (signal error : BitVec 16) (frame : Bool),
    (s.lane n).phase = .fade → (s.lane n).pendingPlan = none → p.holdLimit ≤ (s.lane n).hold + 1 →
    (∀ u, UsedReport s n p period signal error u →
      (if p.lockThreshold ≤ u.qi then (s.lane n).recoverRun + 1 else 0) < p.recoverCount →
      Gives (.symbolReport n period signal error frame) s (s.afterSeekEntry n ((s.lane n).afterUsed u) p)) ∧
    (ExcusedReport s n p → Gives (.symbolReport n period signal error frame) s (s.afterSeekEntry n (s.lane n).afterExcused p))) ∧
  ∀ (s : State) (n : LaneId), (s.hasRequest n = true ↔ n ∈ s.surveyed) ∧ Withdraws s n (s.withdrawRequest n)

/-! ### Lane timers and the packet gate -/

/-- SEEK_TIMER_EXPIRY completes in SEEK and TRACK (R63): a seek cycle, the mast toggled under AUTO, SEEK entered again, LANE under either
flag. -/
def Obligations.SeekTimerExpiryReentersSeek : Prop :=
  ∀ (s : State) (n : LaneId) (p : TunePlan), (s.lane n).phase = .seek ∨ (s.lane n).phase = .track →
    (s.lane n).applied = some p → (s.lane n).seekTimer = some s.time → s.hasRequest n = false →
    Gives (.seekTimerExpiry n) s
      (((s.setLane n { s.lane n with
        phase := .seek
        lastChange := s.time
        activeMast := if p.mastPolicy = .autoA ∨ p.mastPolicy = .autoB then opposite (s.lane n).activeMast else (s.lane n).activeMast
        tap := { setting := some { centre := p.centre, bandwidth := p.bandwidth, mast := if p.mastPolicy = .autoA ∨ p.mastPolicy = .autoB then opposite (s.lane n).activeMast else (s.lane n).activeMast }, hit := false }
        recognizer := .cleared
        tracker := .cleared
        lockIn := 0
        fadeRun := 0
        recoverRun := 0
        hold := 0
        seekTimer := some (s.time + BitVec.ofNat 48 (p.seekLimit * 10000))
        surveyTimer := none
        switchOrder := none
        firstAfterLock := false
        counters := { (s.lane n).counters with seekCycles := satInc (s.lane n).counters.seekCycles } }).oweLane n).raiseIf
          (p.notify.state || p.notify.seekTimeout) .lane)

/-- SURVEY_INTERVAL_EXPIRY completes (R64, R76, R80): the timer stops and a LOCK-class request is filed, which waits at the tail while a dwell
runs or the lane has a waiting switch order, and is served at once otherwise; with the lane's own request pending the expiry files nothing.
And what an entry-to-FADE request does to the Survey Unit
(R77, R86, R87), row by row. The Survey Unit has been settled before (an invariant: ReceptionKeptSound). -/
def Obligations.SurveyIntervalExpiryFilesRequest : Prop :=
  (∀ (s : State) (n : LaneId) (p : TunePlan), (s.lane n).phase = .lock ∨ (s.lane n).phase = .fade →
    (s.lane n).applied = some p → p.mastPolicy = .autoA ∨ p.mastPolicy = .autoB → (s.lane n).surveyTimer = some s.time →
    s.hasRequest n = false → SurveySettled s →
    (s.survey.dwell.isSome = true ∨ (s.lane n).switchOrder.isSome = true →
      exec (.surveyIntervalExpiry n) s = .next { s.setLane n { s.lane n with surveyTimer := none } with
        survey := { s.survey with queue := s.survey.queue ++ [{ lane := n, cls := .lock }] } }) ∧
    (s.survey.dwell = none → (s.lane n).switchOrder = none →
      exec (.surveyIntervalExpiry n) s = .next { s.setLane n { s.lane n with surveyTimer := none } with
        survey := s.survey.serving s.survey.queue n .lock p (opposite (s.lane n).activeMast) })) ∧
  (∀ (s : State) (n : LaneId), (s.lane n).surveyTimer = some s.time → s.hasRequest n = true →
    exec (.surveyIntervalExpiry n) s = .next (s.setLane n { s.lane n with surveyTimer := none })) ∧
  ∀ (s : State) (n : LaneId) (p : TunePlan) (filed : List SurveyRequest), (s.lane n).applied = some p → SurveySettled s →
    s.surveyed.Nodup →
    filed = (if n ∈ s.survey.queue.map SurveyRequest.lane
      then s.survey.queue.map fun r => if r.lane = n then { r with cls := .fade } else r
      else s.survey.queue ++ [{ lane := n, cls := .fade }]) →
    (∀ d, s.survey.dwell = some d → d.lane = n →
      s.fadeRequest n = { s with survey := { s.survey with dwell := some { d with cls := .fade } } }) ∧
    (∀ d, s.survey.dwell = some d → d.lane ≠ n → d.cls = .fade ∨ (s.lane n).switchOrder.isSome = true →
      s.fadeRequest n = { s with survey := { s.survey with queue := filed } }) ∧
    (∀ d, s.survey.dwell = some d → d.lane ≠ n → d.cls = .lock → (s.lane n).switchOrder = none →
      s.fadeRequest n = { s with
        survey := s.survey.serving ({ lane := d.lane, cls := .lock } :: filed.filter fun r => r.lane != n) n .fade p (opposite (s.lane n).activeMast) }) ∧
    (s.survey.dwell = none → (s.lane n).switchOrder.isSome = true →
      s.fadeRequest n = { s with survey := { s.survey with queue := filed } }) ∧
    (s.survey.dwell = none → (s.lane n).switchOrder = none →
      s.fadeRequest n = { s with survey := s.survey.serving s.survey.queue n .fade p (opposite (s.lane n).activeMast) })

/-- APPLY_WINDOW_EXPIRY completes (R106, R108, R110): a STOP ends the lane's reception (R67); a parameter update under an AUTO policy
replaces the fields in place (R66); a retune enters SEEK under the new plan, on the mast it names (R55, R109); and in any lane state, with any
plan, under a fixed policy too (R66, R92; the withdrawal before any other choice: log entry 37), the take of R110's table. The other two apply
points do the same take: a frame-start report in LOCK or FADE, used or excused, after its own effects (R105; where a switch order waits:
SurveyDwellEndDecides), and the leaving of LOCK or FADE by a mode loss or at the hold limit, after the entry to SEEK under the
old plan (R107). What the withdrawal of a survey request does (R78): ModeLossEntersSeek. -/
def Obligations.ApplyWindowExpiryTakesPlan : Prop :=
  (∀ (s : State) (n : LaneId) (old : TunePlan), (s.lane n).phase = .lock ∨ (s.lane n).phase = .fade →
    (s.lane n).applied = some old → (s.lane n).applyWindow = some s.time →
    (∀ tag flags, (s.lane n).pendingPlan = some (.stop tag flags) →
      ∃ t, exec (.applyWindowExpiry n) s = .next t ∧
        t.lane n = { Lane.reset with appliedTag := tag, activeMast := (s.lane n).activeMast, lastChange := s.time } ∧
        (∀ m, m ≠ n → t.lane m = s.lane m) ∧ t.survey.lastMean[n] = none ∧
        (t.answer n).image = { mark := .taken, appliedTag := tag, reason := .none, adjusted := 0, timeAtTake := s.time } ∧
        (t.answer n).owed = true ∧ t.streams = s.streams ∧ t.router = s.router ∧ t.station = s.station) ∧
    (∀ tag p mask, (s.lane n).pendingPlan = some (.tune tag p mask) → p.mastPolicy = .autoA ∨ p.mastPolicy = .autoB →
      p.centre = old.centre → p.bandwidth = old.bandwidth → p.modePolicy = old.modePolicy →
      Gives (.applyWindowExpiry n) s
        (((s.setLane n { s.lane n with
          applied := some p
          appliedTag := tag
          pendingPlan := none
          applyWindow := none
          lockIn := 0
          fadeRun := 0
          recoverRun := 0
          surveyTimer := some (s.time + BitVec.ofNat 48 (p.surveyInterval * 1000000)) }).setAnswer n
            { s.answer n with
              image := { mark := .taken, appliedTag := tag, reason := .none, adjusted := mask, timeAtTake := s.time }
              owed := true }).oweLane n))) ∧
  (∀ (s : State) (n : LaneId) (old : TunePlan) (tag : Tag) (p : TunePlan) (mask : BitVec 16) (l : Lane),
    (s.lane n).phase = .lock ∨ (s.lane n).phase = .fade → (s.lane n).applied = some old → (s.lane n).applyWindow = some s.time →
    (s.lane n).pendingPlan = some (.tune tag p mask) → isRetune s.station.modes (s.lane n).activeMast old p = true →
    l = Lane.afterSeekEntry { s.lane n with applied := some p, activeMast := p.mastPolicy.start, applyWindow := none } p s.time →
    Gives (.applyWindowExpiry n) s
      ((((((s.setLane n l).withdrawRequest n).setLane n { l with appliedTag := tag, pendingPlan := none }).setAnswer n
        { s.answer n with
          image := { mark := .taken, appliedTag := tag, reason := .none, adjusted := mask, timeAtTake := s.time }
          owed := true }).oweLane n).raiseIf p.notify.state .lane)) ∧
  (∀ (s t : State) (n : LaneId) (plan : AcceptedPlan), (s.lane n).phase = .off ∨ (s.lane n).applied.isSome = true →
    (s.lane n).applyWindow = some s.time → (s.lane n).pendingPlan = some plan → Takes s n plan t → Gives (.applyWindowExpiry n) s t) ∧
  (∀ (s v t : State) (n : LaneId) (old : TunePlan) (plan : AcceptedPlan) (period : Fin 16384) (signal error : BitVec 16),
    ReportStays s n old period signal error v → (s.lane n).pendingPlan = some plan → (s.lane n).switchOrder = none →
    Takes v n plan t → Gives (.symbolReport n period signal error true) s t) ∧
  (∀ (s t : State) (n : LaneId) (old : TunePlan) (plan : AcceptedPlan) (c : EntryId) (e : ModeEntry) (period : Fin 16384)
    (signal error : BitVec 16) (frame : Bool) (hits : Nat),
    (s.lane n).phase = .lock ∨ (s.lane n).phase = .fade → TakenReport s n old hits →
    (s.lane n).recognizer.recognised = some c → s.station.modes[c] = some e → e.contains period.val = false →
    e.missCount ≤ (s.lane n).recognizer.lossCount + 1 → (s.lane n).pendingPlan = some plan →
    Takes (s.afterSeekEntry n (s.lane n) old) n plan t → Gives (.symbolReport n period signal error frame) s t) ∧
  ∀ (s t : State) (n : LaneId) (old : TunePlan) (plan : AcceptedPlan) (period : Fin 16384) (signal error : BitVec 16) (frame : Bool) (l : Lane),
    (s.lane n).phase = .fade → (s.lane n).pendingPlan = some plan → old.holdLimit ≤ (s.lane n).hold + 1 →
    ((∃ u, UsedReport s n old period signal error u ∧ l = (s.lane n).afterUsed u ∧
        (if old.lockThreshold ≤ u.qi then (s.lane n).recoverRun + 1 else 0) < old.recoverCount) ∨
      ExcusedReport s n old ∧ l = (s.lane n).afterExcused) →
    Takes (s.afterSeekEntry n l old) n plan t → Gives (.symbolReport n period signal error frame) s t

/-- R109: when a TUNE plan taken against an applied one is a retune. -/
def Obligations.RetuneClassification : Prop :=
  ∀ (modes : ModeTable) (active : Mast) (old new : TunePlan), isRetune modes active old new = true ↔
    new.centre ≠ old.centre ∨ new.bandwidth ≠ old.bandwidth ∨
      (∃ m : EntryId, (m ∈ allowedSet modes new.modePolicy ∧ m ∉ allowedSet modes old.modePolicy) ∨
        (m ∉ allowedSet modes new.modePolicy ∧ m ∈ allowedSet modes old.modePolicy)) ∨
      (new.mastPolicy = .mastA ∧ active = .b) ∨ (new.mastPolicy = .mastB ∧ active = .a)

/-- PACKET_GATE completes in TRACK, LOCK and FADE (R69, R70, R116): a pre-lock discard, a packet that joins, a packet dropped. -/
def Obligations.PacketGateByLaneState : Prop :=
  ∀ (s : State) (n : LaneId) (packet : Vector Byte 188) (m : Mast) (un : Bool) (cor : Fin 9),
    ((s.lane n).phase = .track → exec (.packetGate n packet m un cor) s = .next (s.setLane n { s.lane n with
      counters := { (s.lane n).counters with preLockDiscards := satInc (s.lane n).counters.preLockDiscards } })) ∧
    ((s.lane n).phase = .lock ∨ (s.lane n).phase = .fade → s.router.queue.length < 24 →
      ∃ t q, exec (.packetGate n packet m un cor) s = .next t ∧
        t = { s.setLane n { s.lane n with
              firstAfterLock := false
              counters := { (s.lane n).counters with
                delivered := satInc (s.lane n).counters.delivered
                uncorrectable := if un then satInc (s.lane n).counters.uncorrectable else (s.lane n).counters.uncorrectable
                correctedBytes := satAdd (s.lane n).counters.correctedBytes cor.val } } with
              router := { s.router with queue := s.router.queue ++ [q] } } ∧
        q.lane = n ∧ q.mast = m ∧ q.uncorrectable = un ∧ q.corrected = cor ∧ q.firstAfterLock = (s.lane n).firstAfterLock ∧
        q.stamp.toNat = s.time.toNat % 33554432 ∧
        (un = false → q.bytes = packet) ∧
        (un = true → q.bytes[0] = 0x47#8 ∧ q.bytes[1] = packet[1] ||| 0x80#8 ∧ ∀ i : Fin 188, 2 ≤ i.val → q.bytes[i] = packet[i])) ∧
    ((s.lane n).phase = .lock ∨ (s.lane n).phase = .fade → s.router.queue.length = 24 →
      exec (.packetGate n packet m un cor) s = .next { s.setLane n { s.lane n with
          counters := { (s.lane n).counters with
            routerDrops := satInc (s.lane n).counters.routerDrops
            uncorrectable := if un then satInc (s.lane n).counters.uncorrectable else (s.lane n).counters.uncorrectable
            correctedBytes := satAdd (s.lane n).counters.correctedBytes cor.val } } with
          router := { s.router with drops := satInc s.router.drops } })

/-! ### Survey -/

/-- SURVEY_REPORT completes on a report that does not end the dwell (R46, R83, R84): a settling report, an excused one, a used one without a hit
and with one at or above B. -/
def Obligations.SurveyReportMovesDwell : Prop :=
  ∀ (s : State) (d : Dwell) (p : TunePlan) (signal error : BitVec 16), s.survey.dwell = some d → (s.lane d.lane).applied = some p →
    (d.settling < 2 → exec (.surveyReport signal error) s = .next { s with survey := { s.survey with
      tap := { s.survey.tap with hit := false }, dwell := some { d with settling := d.settling + 1 } } }) ∧
    (2 ≤ d.settling → d.sampled + 1 < d.length → s.survey.tap.hit = true → d.hits < p.blankLimit → p.blankLimit ≤ 15 →
      exec (.surveyReport signal error) s = .next { s with survey := { s.survey with
        tap := { s.survey.tap with hit := false }, dwell := some { d with sampled := d.sampled + 1, hits := d.hits + 1 } } }) ∧
    (2 ≤ d.settling → d.sampled + 1 < d.length → s.survey.tap.hit = false →
      exec (.surveyReport signal error) s = .next { s with survey := { s.survey with
        tap := { s.survey.tap with hit := false }
        dwell := some { d with sampled := d.sampled + 1, hits := 0, count := d.count + 1, sum := d.sum + trimmedSample (rawSample signal error) (s.station.trim d.mast) } } }) ∧
    (2 ≤ d.settling → d.sampled + 1 < d.length → s.survey.tap.hit = true → p.blankLimit ≤ d.hits →
      exec (.surveyReport signal error) s = .next { s with survey := { s.survey with
        tap := { s.survey.tap with hit := false }
        dwell := some { d with
          sampled := d.sampled + 1
          hits := min 255 (d.hits + 1)
          count := d.count + 1
          sum := d.sum + trimmedSample (rawSample signal error) (s.station.trim d.mast) } } })

/-- SURVEY_REPORT completes on the last sampled report (R47, R88, R89), used or excused: the mean or no result, the decision, the request gone,
the timer restarted, the tap idle and then the next choice: the request that R81 chooses among the eligible ones is taken from the queue, the
rest in its order, and its dwell starts; with none the tap stays idle.
And SYMBOL_REPORT completes where a switch order waits and the report, used or excused, leaves the lane in LOCK or FADE
(R90): after the report the mast toggles and Qacc is reseeded. A plan that waits is taken first at a frame-start (R105); a take that drops
the order (R92) leaves no switch, and one that keeps it is followed by the switch under the new plan. Model's choices: log entries 23, 29
and 37. -/
def Obligations.SurveyDwellEndDecides : Prop :=
  (∀ (s : State) (d : Dwell) (p : TunePlan) (signal error : BitVec 16) (sum count need : Nat) (mean : Option Nat),
    s.survey.dwell = some d → (s.lane d.lane).applied = some p → 2 ≤ d.settling → d.sampled + 1 = d.length →
    (s.lane d.lane).switchOrder = none → (∀ r ∈ s.survey.queue, r.lane ≠ d.lane) →
    (s.survey.tap.hit = false ∨ p.blankLimit ≤ d.hits →
      sum = d.sum + trimmedSample (rawSample signal error) (s.station.trim d.mast) ∧ count = d.count + 1) →
    (s.survey.tap.hit = true → d.hits < p.blankLimit → sum = d.sum ∧ count = d.count) →
    mean = (if count = 0 then none else some (sum / count)) →
    need = (s.lane d.lane).tracker.qi + (if (s.lane d.lane).phase = .fade then max 1 (p.margin / 2) else p.margin) →
    ∃ t, exec (.surveyReport signal error) s = .next t ∧
      t.lanes = s.lanes.set d.lane { s.lane d.lane with
        switchOrder := mean.filter fun m => decide (need ≤ m)
        surveyTimer := some (s.time + BitVec.ofNat 48 (p.surveyInterval * 1000000)) } ∧
      t.survey.lastMean = s.survey.lastMean.set d.lane mean ∧ t.hasRequest d.lane = false ∧
      (s.survey.queue = [] → t.survey.dwell = none ∧ t.survey.tap = .idle) ∧
      NextChoice { s with
        lanes := t.lanes
        survey := { s.survey with lastMean := t.survey.lastMean, dwell := none, tap := .idle } } t ∧
      { t with lanes := s.lanes, survey := s.survey } = s) ∧
  ∀ (s v : State) (n : LaneId) (p : TunePlan) (mean : Nat) (period : Fin 16384) (signal error : BitVec 16) (frame : Bool),
    ReportStays s n p period signal error v → (s.lane n).switchOrder = some mean →
    (frame = false ∨ (s.lane n).pendingPlan = none → Gives (.symbolReport n period signal error frame) s (v.afterSwitch n p mean)) ∧
    ∀ plan t, (s.lane n).pendingPlan = some plan → Takes v n plan t →
      ((t.lane n).switchOrder = none → Gives (.symbolReport n period signal error true) s t) ∧
      ∀ q, (t.lane n).switchOrder = some mean → (t.lane n).applied = some q →
        Gives (.symbolReport n period signal error true) s (t.afterSwitch n q mean)

/-- R81: the choice among waiting requests of different lanes; FADE-class first, by queue order or by lane number. And what the Survey Unit does
with it when it looks at its queue, in the terms of Safety.lean: while no dwell runs the chosen one of the eligible requests is taken
from the queue and its dwell starts (R80, R82); a LOCK-class dwell is preempted by an eligible FADE-class request of another lane, its
request back at the head, and then the choice is made (R86). -/
def Obligations.SurveyChoice : Prop :=
  (∀ (order : SurveyOrder) (rs : List SurveyRequest), (rs.map SurveyRequest.lane).Nodup →
    (chooseRequest order rs = none ↔ rs = []) ∧
    ∀ r, chooseRequest order rs = some r → r ∈ rs ∧ (r.cls = .lock → ∀ q ∈ rs, q.cls = .lock) ∧
      (order = .lane → ∀ q ∈ rs, q.cls = r.cls → r.lane ≤ q.lane) ∧
      (order = .arrival → ∃ before after, rs = before ++ r :: after ∧ ∀ q ∈ before, q.cls ≠ r.cls)) ∧
  ∀ s : State, SurveyUnitActs s s.surveySettle

/-- R50, R52, R7, R79 as one invariant of the reception side, kept by every command; and with it, R80 and R86: the Survey Unit stays settled. -/
def Obligations.ReceptionKeptSound : Prop :=
  ∀ s t : State, ReceptionSound s → step s = .next t → ReceptionSound t ∧ (SurveySettled s → SurveySettled t)

/-! ### Channel plan staging -/

/-- R98: the five checks in order, each with its reason. -/
def Obligations.PlanChecksInOrder : Prop :=
  ∀ (s : State) (n : LaneId) (h : SlotHostHalf),
    (h.action = none → s.checkPlan n h = .refuse .badAction) ∧
    (h.action = some .stop → s.checkPlan n h = .accept (.stop h.tag h.notify)) ∧
    (h.action = some .tune → h.bandwidth ≠ 6 ∧ h.bandwidth ≠ 7 ∧ h.bandwidth ≠ 8 → s.checkPlan n h = .refuse .badBandwidth) ∧
    (h.action = some .tune → h.bandwidth = 6 ∨ h.bandwidth = 7 ∨ h.bandwidth = 8 →
      (((h.centre : Int) - 500 * h.bandwidth < 174000 ∨ (862000 : Int) < h.centre + 500 * h.bandwidth) →
        s.checkPlan n h = .refuse .freqRange) ∧
      (174000 ≤ (h.centre : Int) - 500 * h.bandwidth → (h.centre : Int) + 500 * h.bandwidth ≤ 862000 →
        (modePolicyOf h.modeCode = none → s.checkPlan n h = .refuse .badMode) ∧
        (∀ e, modePolicyOf h.modeCode = some (.fixed e) → s.station.modes[e] = none → s.checkPlan n h = .refuse .badMode) ∧
        (∀ mode, modePolicyOf h.modeCode = some mode → (∀ e, mode = .fixed e → s.station.modes[e].isSome = true) →
          (s.overlapsOthers n h.centre h.bandwidth = true → s.checkPlan n h = .refuse .overlap) ∧
          (s.overlapsOthers n h.centre h.bandwidth = false → ∃ p mask, s.checkPlan n h = .accept (.tune h.tag p mask) ∧
            p.inRange ∧ p.centre = h.centre ∧ p.bandwidth = h.bandwidth ∧ p.modePolicy = mode))))

/-- LANE_SLOT_READ_COMPLETE completes: passed over (R95), refused (R100), held as pending (R102, R103), applied at once in OFF (R55, R102,
R108) and, with a STOP or a TUNE, in OFF, SEEK and TRACK by R110's table, abandoned (R97), or discarded outside RUNNING (R95, R114). And what
the host half read is, field by field, with the mode policy codes (R93, R179, R180). What a retune's withdrawal does (R78):
ModeLossEntersSeek. -/
def Obligations.LaneSlotReadAnswers : Prop :=
  (∀ (s : State) (t : Transfer) (n : LaneId) (slot : Vector Byte 64), s.carries t (.laneSlotRead n) → s.link.device = .running →
    ((hostHalf slot).staged = false ∨ (s.answer n).lastAnswered = some (hostHalf slot).tag →
      Gives (.laneSlotReadComplete (.data slot)) s { s.freePort with fetcher := { s.fetcher with item := none } }) ∧
    (∀ reason, (hostHalf slot).staged = true → (s.answer n).lastAnswered ≠ some (hostHalf slot).tag →
      s.checkPlan n (hostHalf slot) = .refuse reason →
      Gives (.laneSlotReadComplete (.data slot)) s
        (State.setAnswer { s.freePort with fetcher := { s.fetcher with item := none } } n
          { lastAnswered := some (hostHalf slot).tag
            image := { mark := .refused, appliedTag := (s.lane n).appliedTag, reason := reason, adjusted := 0, timeAtTake := s.time }
            owed := true })) ∧
    (∀ plan, (hostHalf slot).staged = true → (s.answer n).lastAnswered ≠ some (hostHalf slot).tag →
      s.checkPlan n (hostHalf slot) = .accept plan → (s.lane n).phase = .lock ∨ (s.lane n).phase = .fade →
      Gives (.laneSlotReadComplete (.data slot)) s
        (State.setAnswer
          { s.freePort.setLane n { s.lane n with
              pendingPlan := some plan, applyWindow := some (s.time + 250000#48) } with
            fetcher := { s.fetcher with item := none, superseded :=
              if (s.lane n).pendingPlan.isSome then satInc s.fetcher.superseded else s.fetcher.superseded } } n
          { lastAnswered := some (hostHalf slot).tag
            image := { mark := .accepted, appliedTag := (s.lane n).appliedTag, reason := .none, adjusted := plan.adjustedMask, timeAtTake := (s.answer n).image.timeAtTake }
            owed := true })) ∧
    (∀ tag p mask, (hostHalf slot).staged = true → (s.answer n).lastAnswered ≠ some (hostHalf slot).tag →
      s.checkPlan n (hostHalf slot) = .accept (.tune tag p mask) → (s.lane n).phase = .off → s.hasRequest n = false →
      Gives (.laneSlotReadComplete (.data slot)) s
        ((State.setAnswer
          { s.freePort.setLane n { s.lane n with
              phase := .seek
              applied := some p
              appliedTag := tag
              pendingPlan := none
              applyWindow := none
              activeMast := p.mastPolicy.start
              lastChange := s.time
              tap := { setting := some { centre := p.centre, bandwidth := p.bandwidth, mast := p.mastPolicy.start }, hit := false }
              recognizer := .cleared
              tracker := .cleared
              lockIn := 0
              fadeRun := 0
              recoverRun := 0
              hold := 0
              seekTimer := some (s.time + BitVec.ofNat 48 (p.seekLimit * 10000))
              surveyTimer := none
              switchOrder := none
              firstAfterLock := false } with
            fetcher := { s.fetcher with item := none } } n
          { lastAnswered := some (hostHalf slot).tag
            image := { mark := .taken, appliedTag := tag, reason := .none, adjusted := mask, timeAtTake := s.time }
            owed := true }).oweLane n |>.raiseIf p.notify.state .lane)) ∧
    Gives (.laneSlotReadComplete .error) s
      { s.freePort.linkError .readError .planFetcher t.address with fetcher := { s.fetcher with item := none } }) ∧
  (∀ (s u : State) (t : Transfer) (n : LaneId) (slot : Vector Byte 64) (plan : AcceptedPlan), s.carries t (.laneSlotRead n) →
    s.link.device = .running → (hostHalf slot).staged = true → (s.answer n).lastAnswered ≠ some (hostHalf slot).tag →
    s.checkPlan n (hostHalf slot) = .accept plan →
    (s.lane n).phase = .off ∨ ((s.lane n).phase = .seek ∨ (s.lane n).phase = .track) ∧ (s.lane n).applied.isSome = true →
    Takes (State.setAnswer { s.freePort with fetcher := { s.fetcher with item := none } } n
      { s.answer n with lastAnswered := some (hostHalf slot).tag }) n plan u →
    Gives (.laneSlotReadComplete (.data slot)) s u) ∧
  (∀ (s : State) (t : Transfer) (n : LaneId) (slot : Vector Byte 64), s.carries t (.laneSlotRead n) → s.link.device ≠ .running →
    Gives (.laneSlotReadComplete (.data slot)) s { s.freePort with fetcher := { s.fetcher with item := none } }) ∧
  (∀ (slot : Vector Byte 64) (h : SlotHostHalf), h = hostHalf slot →
    (h.staged = true ↔ byteAt slot 0x00 = 1#8) ∧ (h.action = some .tune ↔ byteAt slot 0x01 = 1#8) ∧
    (h.action = some .stop ↔ byteAt slot 0x01 = 2#8) ∧ h.tag.toNat = field slot 0x02 2 ∧ h.centre = field slot 0x04 4 ∧
    h.bandwidth = (byteAt slot 0x08).toNat ∧ h.mastCode = (byteAt slot 0x09).toNat ∧ h.modeCode = (byteAt slot 0x0A).toNat ∧
    h.lockThreshold = (byteAt slot 0x0B).toNat ∧ h.unlockThreshold = (byteAt slot 0x0C).toNat ∧ h.lockCount = (byteAt slot 0x0D).toNat ∧
    h.fadeCount = (byteAt slot 0x0E).toNat ∧ h.recoverCount = (byteAt slot 0x0F).toNat ∧ h.holdLimit = field slot 0x10 2 ∧
    h.smoothing = (byteAt slot 0x12).toNat ∧ h.blankLimit = (byteAt slot 0x13).toNat ∧ h.seekLimit = (byteAt slot 0x14).toNat ∧
    h.surveyInterval = (byteAt slot 0x15).toNat ∧ h.dwell = (byteAt slot 0x16).toNat ∧ h.margin = (byteAt slot 0x17).toNat ∧
    h.notify.state = (byteAt slot 0x18).getLsbD 0 ∧ h.notify.switch = (byteAt slot 0x18).getLsbD 1 ∧
    h.notify.seekTimeout = (byteAt slot 0x18).getLsbD 2) ∧
  ∀ code : Nat, (modePolicyOf code = some .auto ↔ code = 0) ∧ ∀ e : EntryId, modePolicyOf code = some (.fixed e) ↔ code = 0x80 + e.val

/-- LANE_SLOT_WRITE_BACK_COMPLETE completes (R112, R113): PLAN for TAKEN and REFUSED, none for ACCEPTED or a failed write. -/
def Obligations.LaneSlotWriteBackRaisesPlan : Prop :=
  ∀ (s : State) (t : Transfer) (n : LaneId) (mark : PartMark), s.carries t (.laneSlotWriteBack n mark) →
    (mark = .taken ∨ mark = .refused → Gives (.laneSlotWriteBackComplete .accepted) s ((s.freePort.accept t).raise .plan)) ∧
    (mark = .accepted → Gives (.laneSlotWriteBackComplete .accepted) s (s.freePort.accept t)) ∧
    Gives (.laneSlotWriteBackComplete .error) s (s.freePort.linkError .writeError .planFetcher t.address)

/-- R51, R101: every plan a lane holds stays in range, QU below QL, its channel in the band. R99: and no two lanes ever hold overlapping
channels. What overlapping, the clamps and the adjusted mask are, field by field. -/
def Obligations.PlansKeptInRange : Prop :=
  (∀ s t : State, PlansInRange s → step s = .next t → PlansInRange t) ∧
  (∀ s t : State, ChannelsApart s → step s = .next t → ChannelsApart t) ∧
  (∀ (s : State) (n : LaneId) (centre bandwidth : Nat), s.overlapsOthers n centre bandwidth = true ↔
    ∃ m q, m ≠ n ∧ s.holds m q ∧ ChannelsOverlap centre bandwidth q.centre q.bandwidth) ∧
  ∀ (h : SlotHostHalf) (mode : ModePolicy) (p : TunePlan), p = h.clamped mode →
    p.centre = h.centre ∧ p.bandwidth = h.bandwidth ∧ p.modePolicy = mode ∧ p.notify = h.notify ∧
    p.mastPolicy = (if h.mastCode = 0 then .mastA else if h.mastCode = 1 then .mastB else if h.mastCode = 3 then .autoB else .autoA) ∧
    p.lockThreshold = max 1 (min 127 h.lockThreshold) ∧
    p.unlockThreshold = min h.unlockThreshold (max 1 (min 127 h.lockThreshold) - 1) ∧
    p.lockCount = max 1 (min 63 h.lockCount) ∧ p.fadeCount = max 1 (min 63 h.fadeCount) ∧
    p.recoverCount = max 1 (min 63 h.recoverCount) ∧ p.smoothing = max 1 (min 6 h.smoothing) ∧
    p.blankLimit = min 15 h.blankLimit ∧ p.margin = max 1 (min 31 h.margin) ∧
    (h.holdLimit ≤ 65535 → p.holdLimit = max 16 h.holdLimit) ∧ (h.seekLimit ≤ 255 → p.seekLimit = max 1 h.seekLimit) ∧
    (h.surveyInterval ≤ 255 → p.surveyInterval = max 1 h.surveyInterval) ∧ (h.dwell ≤ 255 → p.dwell = max 8 h.dwell) ∧
    ∀ i, i < 16 → (h.adjustedMask p).getLsbD i = [decide (3 < h.mastCode), p.lockThreshold != h.lockThreshold,
      p.unlockThreshold != h.unlockThreshold, p.lockCount != h.lockCount, p.fadeCount != h.fadeCount,
      p.recoverCount != h.recoverCount, p.holdLimit != h.holdLimit, p.smoothing != h.smoothing, p.blankLimit != h.blankLimit,
      p.seekLimit != h.seekLimit, p.surveyInterval != h.surveyInterval, p.dwell != h.dwell, p.margin != h.margin][i]?.getD false

/-! ### Packet Router -/

/-- R128: the outcome and the baseline of one checking entry for a packet that it matches. Which entries check (R126): a position whose entry is
not valid, does not check or does not match has nothing checked and its baseline stays. And what of a packet's header the Router reads
(R119): PID, content indicator, continuity number. -/
def Obligations.ContinuityCheck : Prop :=
  (∀ bytes : Vector Byte 188, packetPid bytes = bytes[1].toNat % 32 * 256 + bytes[2].toNat ∧
    packetHasPayload bytes = bytes[3].getLsbD 4 ∧ (packetContinuity bytes).toNat = bytes[3].toNat % 16) ∧
  (∀ e : FilterEntry, e.isChecking = true ↔
    e.checkContinuity = true ∧ e.exponent = 0 ∧ ∃ n : LaneId, ∀ m : LaneId, e.lanes.getLsbD m.val = decide (m = n)) ∧
  (∀ (entry : Option FilterEntry) (p : Packet) (baseline : Option (BitVec 4)),
    (∀ e, entry = some e → e.isChecking = true → e.accepts p = false) →
    entryOutcome p entry baseline = .unchecked ∧ nextBaseline p entry baseline = baseline) ∧
  ∀ (e : FilterEntry) (p : Packet) (baseline : Option (BitVec 4)), e.isChecking = true → e.accepts p = true →
    (p.uncorrectable = true ∨ packetHasPayload p.bytes = false →
      entryOutcome p (some e) baseline = .unchecked ∧ nextBaseline p (some e) baseline = baseline) ∧
    (p.uncorrectable = false → packetHasPayload p.bytes = true →
      nextBaseline p (some e) baseline = some (packetContinuity p.bytes) ∧
      (baseline = none → entryOutcome p (some e) baseline = .started) ∧
      ∀ b, baseline = some b →
        ((packetContinuity p.bytes).toNat = (b.toNat + 1) % 16 → entryOutcome p (some e) baseline = .inSequence) ∧
        (packetContinuity p.bytes = b → entryOutcome p (some e) baseline = .isRepeat) ∧
        ((packetContinuity p.bytes).toNat ≠ (b.toNat + 1) % 16 → packetContinuity p.bytes ≠ b →
          entryOutcome p (some e) baseline = .isBreak))

/-- R143: a Stream Writer takes an offered slot by its state. That a drop in CLOSED, CLOSING or HALTED makes no write-back owed by itself (R154) is
the model's reading of log entry 31; what it makes owed in STOPPING (R156): RoutePacketReachesTargets. -/
def Obligations.OfferedSlotTaken : Prop :=
  ∀ (w : StreamWriter) (slot : Slot),
    (w.phase = .opened → w.fifo.length < 32 → w.takeOffer slot = { w with fifo := w.fifo ++ [slot] }) ∧
    (w.phase = .opened → w.fifo.length = 32 →
      w.takeOffer slot = { w with counters := { w.counters with droppedFifo := satInc w.counters.droppedFifo } }) ∧
    (w.phase = .starved →
      w.takeOffer slot = { w with counters := { w.counters with droppedStarved := satInc w.counters.droppedStarved } }) ∧
    (w.phase = .closed ∨ w.phase = .closing ∨ w.phase = .halted →
      w.takeOffer slot = { w with counters := { w.counters with droppedClosed := satInc w.counters.droppedClosed } })

/-- ROUTE_PACKET completes with no shadow ready (R117, R121 to R129, R132): the head leaves the queue; the baselines of its lane's checking
entries are dropped at a first-after-lock packet, then each matching checking entry checks it; each stream that matching entries name is
offered one slot, whose break bit says whether a check found a break, or has the packet withheld; every other stream is untouched; an
unmatched packet is counted. What a check finds, and which entries check: ContinuityCheck.
In STOPPING a stream in CLOSED or HALTED then owes its write-back when the last one does not carry its counters (R156; log entry 31).
While a shadow is ready nothing is taken before the swap (the command then changes nothing: log entry 3). -/
def Obligations.RoutePacketReachesTargets : Prop :=
  (∀ (s : State) (table : FilterTable), s.router.shadow = .ready table → exec .routePacket s = .next s) ∧
  ∀ (s : State) (p : Packet) (rest : List Packet), s.router.inHand = none → s.router.queue = p :: rest →
    (∀ table, s.router.shadow ≠ .ready table) →
    ∃ (fresh baselines : Vector (Option (BitVec 4)) 256) (all : List Continuity) (offered streams : Vector StreamWriter 16) (unmatched : Counter),
      Gives .routePacket s { s with
        streams := streams
        router := { s.router with
          queue := rest
          baselines := baselines
          breaks := satAdd s.router.breaks (all.count .isBreak)
          repeats := satAdd s.router.repeats (all.count .isRepeat)
          unmatched := unmatched } } ∧
      (∀ i : Fin 256,
        (p.firstAfterLock = true → (∃ e, s.router.active[i] = some e ∧ e.isChecking = true ∧ e.lanes.getLsbD p.lane.val = true) →
          fresh[i] = none) ∧
        (p.firstAfterLock = false ∨ (∀ e, s.router.active[i] = some e → e.isChecking = true → e.lanes.getLsbD p.lane.val = false) →
          fresh[i] = s.router.baselines[i])) ∧
      all.length = 256 ∧ (∀ i : Fin 256, all[i.val]? = some (entryOutcome p s.router.active[i] fresh[i])) ∧
      (∀ i : Fin 256, baselines[i] = nextBaseline p s.router.active[i] fresh[i]) ∧
      (∀ i : Fin 256, (∀ e, s.router.active[i] = some e → e.isChecking = true → e.accepts p = false) →
        all[i.val]? = some .unchecked ∧ baselines[i] = fresh[i]) ∧
      ((∃ e, some e ∈ s.router.active.toList ∧ e.accepts p = true) → unmatched = s.router.unmatched) ∧
      ((∀ e, some e ∈ s.router.active.toList → e.accepts p = false) → unmatched = satInc s.router.unmatched) ∧
      (∀ e : FilterEntry, e.accepts p = true ↔
        e.lanes.getLsbD p.lane.val = true ∧ e.base ≤ packetPid p.bytes ∧ packetPid p.bytes < e.base + 2 ^ e.exponent) ∧
      ∀ n : StreamId,
        (s.link.device = .stopping → OwesFinalCounts offered[n] streams[n]) ∧ (s.link.device ≠ .stopping → streams[n] = offered[n]) ∧
        ((∀ e, some e ∈ s.router.active.toList → e.accepts p = true → e.target ≠ n) → offered[n] = s.stream n) ∧
        (p.uncorrectable = true → (∃ e, some e ∈ s.router.active.toList ∧ e.accepts p = true ∧ e.target = n ∧ e.dropErrored = true) →
          offered[n] = { s.stream n with counters := { (s.stream n).counters with withheld := satInc (s.stream n).counters.withheld } }) ∧
        ((∃ e, some e ∈ s.router.active.toList ∧ e.accepts p = true ∧ e.target = n) →
          (p.uncorrectable = false ∨ ∀ e, some e ∈ s.router.active.toList → e.accepts p = true → e.target = n → e.dropErrored = false) →
          offered[n] = (s.stream n).takeOffer { lane := p.lane, mast := p.mast, uncorrectable := p.uncorrectable, continuityBreak := all.contains .isBreak, stamp := p.stamp, bytes := p.bytes })

/-- R155 at the Router: a routed packet (no shadow is ready, R132) adds exactly 1 to the ledger of each stream it is routed to, and nothing to
the others, while no counter saturates. -/
def Obligations.RoutedPacketEntersLedgerOnce : Prop :=
  ∀ (s t : State) (p : Packet) (rest : List Packet) (n : StreamId), s.router.inHand = none → s.router.queue = p :: rest →
    (∀ table, s.router.shadow ≠ .ready table) →
    exec .routePacket s = .next t →
    (s.stream n).counters.droppedFifo.toNat < 4294967295 → (s.stream n).counters.droppedStarved.toNat < 4294967295 →
    (s.stream n).counters.droppedClosed.toNat < 4294967295 → (s.stream n).counters.withheld.toNat < 4294967295 →
    ((∃ e, some e ∈ s.router.active.toList ∧ e.accepts p = true ∧ e.target = n) →
      (t.stream n).ledger = (s.stream n).ledger + 1) ∧
    ((∀ e, some e ∈ s.router.active.toList → e.accepts p = true → e.target ≠ n) → (t.stream n).ledger = (s.stream n).ledger)

/-- FILTER_SWAP completes (R132, R133): the shadow becomes active, the version counts, FILTER is raised, the item is over; a checking entry
keeps the baseline of an identical predecessor at its position, and no other entry has one. -/
def Obligations.FilterSwapTakesShadow : Prop :=
  ∀ (s : State) (table : FilterTable), s.router.shadow = .ready table → s.router.inHand = none →
    ∃ baselines : Vector (Option (BitVec 4)) 256,
      (∀ i : Fin 256, ∀ b, baselines[i] = some b ↔
        s.router.baselines[i] = some b ∧ ∃ e, table[i] = some e ∧ s.router.active[i] = some e ∧ e.isChecking = true) ∧
      Gives .filterSwap s (State.raise { s with
        router := { s.router with active := table, version := s.router.version + 1, shadow := .none, baselines := baselines }
        fetcher := { s.fetcher with item := none } } .filter)

/-- FILTER_BLOCK_READ_COMPLETE completes while RUNNING (R130, R131, R134): the next block, the ready shadow, a restart, a failed load; and in
STOPPING, where the load is abandoned without a notice (R135). And what an entry of a block is converted to (R120). -/
def Obligations.FilterBlockReadFillsShadow : Prop :=
  (∀ (s : State) (t : Transfer) (j : Fin 8) (entries : FilterTable) (next : Fin 8) (block : Vector Byte 256),
    s.carries t (.filterBlockRead j) → s.link.device = .running →
    (s.router.shadow = .filling entries next false → ∃ placed : FilterTable,
      (∀ i : Fin 256, placed[i] = if i.val / 32 = j.val then filterEntryAt block (8 * (i.val % 32)) else entries[i]) ∧
      Gives (.filterBlockReadComplete (.data block)) s { s.freePort with router := { s.router with
        shadow := if j.val = 7 then .ready placed else .filling placed (j + 1) false } }) ∧
    (s.router.shadow = .filling entries next true →
      Gives (.filterBlockReadComplete (.data block)) s { s.freePort with router := { s.router with shadow := .filling entries 0 false } }) ∧
    (∀ restart, s.router.shadow = .filling entries next restart →
      Gives (.filterBlockReadComplete .error) s (State.raise
        { s.freePort.linkError .readError .planFetcher t.address with
          router := { s.router with shadow := .none }
          fetcher := { s.fetcher with item := none, pendingSet := { s.fetcher.pendingSet with
            filter := s.fetcher.pendingSet.filter || restart } } } .filter))) ∧
  (∀ (s : State) (t : Transfer) (j : Fin 8) (block : Vector Byte 256), s.carries t (.filterBlockRead j) → s.link.device ≠ .running →
    Gives (.filterBlockReadComplete (.data block)) s
      { s.freePort with router := { s.router with shadow := .none }, fetcher := { s.fetcher with item := none } }) ∧
  ∀ (block : Vector Byte 256) (k : Nat), k < 32 →
    ((byteAt block (8 * k)).getLsbD 0 = false → filterEntryAt block (8 * k) = none) ∧
    ((byteAt block (8 * k)).getLsbD 0 = true → ∃ e, filterEntryAt block (8 * k) = some e ∧
      e.dropErrored = (byteAt block (8 * k)).getLsbD 1 ∧ e.checkContinuity = (byteAt block (8 * k)).getLsbD 2 ∧
      e.target.val = (byteAt block (8 * k + 1)).toNat % 16 ∧ e.lanes.toNat = field block (8 * k + 2) 2 % 4096 ∧
      e.exponent = min 13 (byteAt block (8 * k + 6)).toNat ∧
      e.base = field block (8 * k + 4) 2 % 8192 / 2 ^ e.exponent * 2 ^ e.exponent)

/-! ### Stream Writers -/

/-- STREAM_RECORD_READ_COMPLETE completes while RUNNING (R138): an OPEN of a CLOSED stream (R139), new fields in OPEN, a failed read; an OPEN in
STARVED, which checks once more, or once more after the check in flight (R148; the newest fetch: log entry 18), and in CLOSING and HALTED
(R139); a CLOSE in every state (R149, R150; log entries 8 and 30). A check counts as in flight from its request on (log entry 34). Outside
RUNNING the data is discarded and no fetch is handed (R138). And what the fetch is, field by field (R136). -/
def Obligations.StreamRecordReadIsFetch : Prop :=
  (∀ (s : State) (t : Transfer) (n : StreamId) (record : Vector Byte 64) (f : StreamFetch),
    s.carries t (.streamRecordRead n) → s.link.device = .running → f = streamFetch record → f.isOpen = true →
    ((s.stream n).phase = .closed → f.head ≠ 0 → Gives (.streamRecordReadComplete (.data record)) s
      (State.setStream { s.freePort with fetcher := { s.fetcher with item := none } } n { s.stream n with
        phase := .opened
        priority := f.priority
        faultPolicy := f.faultPolicy
        flushInterval := f.flushInterval
        notifyOnClose := f.notifyOnClose
        counters := .zero
        sequence := 0
        position := .readingAt f.head
        currentRecord := f.head
        job := .read f.head
        owed := true })) ∧
    ((s.stream n).phase = .closed → f.head = 0 → ∃ u, exec (.streamRecordReadComplete (.data record)) s = .next u ∧
      (u.stream n).phase = .starved ∧ (u.stream n).position = .waitingAtEnd ∧ (u.stream n).counters = .zero ∧
      (u.stream n).sequence = 0 ∧ (u.stream n).owed = true ∧ u.link.notice.getLsbD 3 = true) ∧
    ((s.stream n).phase = .opened → Gives (.streamRecordReadComplete (.data record)) s
      (State.setStream { s.freePort with fetcher := { s.fetcher with item := none } } n { s.stream n with
        priority := f.priority
        faultPolicy := f.faultPolicy
        flushInterval := f.flushInterval
        notifyOnClose := f.notifyOnClose
        owed := true })) ∧
    Gives (.streamRecordReadComplete .error) s
      { s.freePort.linkError .readError .planFetcher t.address with fetcher := { s.fetcher with item := none } }) ∧
  (∀ (s : State) (t : Transfer) (n : StreamId) (record : Vector Byte 64), s.carries t (.streamRecordRead n) → s.link.device ≠ .running →
    Gives (.streamRecordReadComplete (.data record)) s { s.freePort with fetcher := { s.fetcher with item := none } }) ∧
  ∀ (s : State) (t : Transfer) (n : StreamId) (record : Vector Byte 64) (f : StreamFetch) (w : StreamWriter),
    s.carries t (.streamRecordRead n) → s.link.device = .running → f = streamFetch record → w = s.stream n →
    (f.isOpen = true →
      (w.phase = .closing ∨ w.phase = .halted →
        Gives (.streamRecordReadComplete (.data record)) s (s.afterFetch n { w with owed := true })) ∧
      (w.phase = .starved → w.job ≠ .none →
        Gives (.streamRecordReadComplete (.data record)) s (s.afterFetch n { w.withFetched f with recheck := some f.head })) ∧
      (∀ a, w.phase = .starved → w.job = .none → w.position = .waitingOn a →
        Gives (.streamRecordReadComplete (.data record)) s (s.afterFetch n ((w.withFetched f).afterReadWanted a))) ∧
      (w.phase = .starved → w.job = .none → w.position = .waitingAtEnd → Gives (.streamRecordReadComplete (.data record)) s
        (s.afterFetch n (if f.head = 0 then w.withFetched f else (w.withFetched f).afterReadWanted f.head)))) ∧
    (f.isOpen = false → ∃ v, TakesClose w f.head v ∧ Gives (.streamRecordReadComplete (.data record)) s (s.afterFetch n v)) ∧
    f.head.toNat = field record 0x08 8 / 16 * 16 ∧ (f.isOpen = true ↔ byteAt record 0x00 = 1#8) ∧
    f.priority.val = min 7 (byteAt record 0x01).toNat ∧ (f.faultPolicy = .skip ↔ byteAt record 0x02 = 1#8) ∧
    f.flushInterval = (byteAt record 0x03).toNat ∧ f.notifyOnClose = (byteAt record 0x04).getLsbD 0

/-- BUFFER_RECORD_READ_COMPLETE completes in OPEN (R141, R147): a record taken, a bad record to be closed, a record not EMPTY. In STARVED
(R148): the same without a change of state or a notice, and the check once more for a fetch that came meanwhile (log entry 18; the position of
a close: log entry 8). In CLOSING (R150): not taken with the FIFO empty, starved while draining, taken, or closed as bad (log entry 30). And what
the record is, field by field (R140). -/
def Obligations.BufferRecordReadActsOnMark : Prop :=
  (∀ (s : State) (t : Transfer) (n : StreamId) (a : Addr) (bytes : Vector Byte 32) (r : BufferRecord),
    s.carries t (.bufferRecordRead n) → (s.stream n).phase = .opened → (s.stream n).job = .read a → r = bufferRecord bytes →
    (r.isEmpty = true → 1 ≤ r.capacity → Gives (.bufferRecordReadComplete (.data bytes)) s
      (s.freePort.setStream n { s.stream n with job := .filling { address := a, dataArea := r.dataArea, capacity := r.capacity, nextRecord := r.nextRecord, filled := 0, stamp := none } })) ∧
    (r.isEmpty = true → r.capacity = 0 → Gives (.bufferRecordReadComplete (.data bytes)) s
      (s.freePort.setStream n { s.stream n with
        flushTimer := none
        flushWaits := false
        position := .closingBuffer
        job := .closingFields { address := a, nextRecord := r.nextRecord, filled := 0, stamp := none, reason := .fault } })) ∧
    (r.isEmpty = false → Gives (.bufferRecordReadComplete (.data bytes)) s
      ((s.freePort.setStream n { s.stream n with
        phase := .starved
        position := .waitingOn a
        job := .none
        owed := true }).raise .stream))) ∧
  ∀ (s : State) (t : Transfer) (n : StreamId) (a : Addr) (bytes : Vector Byte 32) (r : BufferRecord) (w : StreamWriter),
    s.carries t (.bufferRecordRead n) → w = s.stream n → w.job = .read a → r = bufferRecord bytes →
    (w.phase = .starved →
      (r.isEmpty = true → 1 ≤ r.capacity → Gives (.bufferRecordReadComplete (.data bytes)) s
        (s.freePort.setStream n { w with job := .filling { address := a, dataArea := r.dataArea, capacity := r.capacity, nextRecord := r.nextRecord, filled := 0, stamp := none } })) ∧
      (r.isEmpty = true → r.capacity = 0 → Gives (.bufferRecordReadComplete (.data bytes)) s
        (s.freePort.setStream n { w with
          flushTimer := none
          flushWaits := false
          job := .closingFields { address := a, nextRecord := r.nextRecord, filled := 0, stamp := none, reason := .fault } })) ∧
      (r.isEmpty = false → w.recheck = none → Gives (.bufferRecordReadComplete (.data bytes)) s
        (s.freePort.setStream n { w with position := .waitingOn a, job := .none })) ∧
      (r.isEmpty = false → w.recheck.isSome = true → Gives (.bufferRecordReadComplete (.data bytes)) s
        (s.freePort.setStream n { w with position := .waitingOn a, job := .read a, currentRecord := a, owed := true, recheck := none }))) ∧
    (w.phase = .closing →
      (w.fifo = [] → Gives (.bufferRecordReadComplete (.data bytes)) s (s.freePort.setStream n w.afterClosedEntry)) ∧
      (w.fifo ≠ [] → r.isEmpty = false →
        Gives (.bufferRecordReadComplete (.data bytes)) s (s.freePort.setStream n w.afterStarvedDrain)) ∧
      (w.fifo ≠ [] → r.isEmpty = true → 1 ≤ r.capacity → Gives (.bufferRecordReadComplete (.data bytes)) s
        (s.freePort.setStream n { w with job := .filling { address := a, dataArea := r.dataArea, capacity := r.capacity, nextRecord := r.nextRecord, filled := 0, stamp := none } })) ∧
      (w.fifo ≠ [] → r.isEmpty = true → r.capacity = 0 → Gives (.bufferRecordReadComplete (.data bytes)) s
        (s.freePort.setStream n { w with
          flushTimer := none
          flushWaits := false
          position := .closingBuffer
          job := .closingFields { address := a, nextRecord := r.nextRecord, filled := 0, stamp := none, reason := .fault } }))) ∧
    (r.isEmpty = true ↔ byteAt bytes 0x1F = 0#8) ∧ r.dataArea.toNat = field bytes 0x00 8 / 64 * 64 ∧
    r.nextRecord.toNat = field bytes 0x08 8 / 16 * 16 ∧ r.capacity = min 4096 (field bytes 0x10 2)

/-- CLOSING_FIELDS_WRITE_COMPLETE completes (R146): the mark write comes next. FILLING_WRITE_COMPLETE completes in OPEN and STARVED (R141,
R148): the record is the current buffer, the stream OPEN and holding; and in CLOSING (R150): the drain goes on, or, with nothing to write, EMPTY is
to be written back. -/
def Obligations.FillingAndFieldsWrites : Prop :=
  (∀ (s : State) (t : Transfer) (n : StreamId) (c : BufferClose), s.carries t (.closingFieldsWrite n) →
    (s.stream n).job = .closingFields c →
    Gives (.closingFieldsWriteComplete .accepted) s ((s.freePort.accept t).setStream n { s.stream n with job := .mark c })) ∧
  ∀ (s : State) (t : Transfer) (n : StreamId) (b : HeldBuffer), s.carries t (.fillingWrite n) → (s.stream n).job = .filling b →
    ((s.stream n).phase = .opened → Gives (.fillingWriteComplete .accepted) s
      ((s.freePort.accept t).setStream n { s.stream n with
        current := some b
        position := .holding
        job := .none
        recheck := none })) ∧
    ((s.stream n).phase = .starved → Gives (.fillingWriteComplete .accepted) s
      ((s.freePort.accept t).setStream n { s.stream n with
        phase := .opened
        owed := true
        current := some b
        position := .holding
        job := .none
        recheck := none })) ∧
    ((s.stream n).phase = .closing → (s.stream n).fifo ≠ [] → Gives (.fillingWriteComplete .accepted) s
      ((s.freePort.accept t).setStream n { s.stream n with
        current := some b
        position := .holding
        job := .none
        recheck := none })) ∧
    ((s.stream n).phase = .closing → (s.stream n).fifo = [] → (s.stream n).inFlight = none → b.filled = 0 →
      Gives (.fillingWriteComplete .accepted) s
        ((s.freePort.accept t).setStream n { s.stream n with
          current := some b
          position := .holding
          job := .emptyMark b.address
          recheck := none }))

/-- SLOT_WRITE_COMPLETE completes in OPEN (R144, R145, R151): a slot written, a buffer filled, a failed slot. With a flush expiry waiting the
buffer closes with FLUSH, in OPEN and CLOSING, unless the slot fills it (CAPACITY) or fails (FAULT). In CLOSING (R149, R150): the drain goes
on, the full buffer closes with CAPACITY, the last slot closes it with CLOSE, a failed slot with FAULT. -/
def Obligations.SlotWriteMovesBuffer : Prop :=
  (∀ (s : State) (t : Transfer) (n : StreamId) (b : HeldBuffer), s.carries t (.slotWrite n) → (s.stream n).phase = .opened →
    (s.stream n).current = some b → (s.stream n).flushWaits = false →
    (b.filled + 1 < b.capacity → Gives (.slotWriteComplete .accepted) s
      ((s.freePort.accept t).setStream n { s.stream n with
        inFlight := none
        counters := { (s.stream n).counters with slotsWritten := satInc (s.stream n).counters.slotsWritten }
        current := some { b with filled := b.filled + 1, stamp := if b.filled = 0 then some s.time else b.stamp }
        flushTimer := if b.filled = 0 ∧ (s.stream n).flushInterval ≠ 0
          then some (s.time + BitVec.ofNat 48 ((s.stream n).flushInterval * 1000)) else (s.stream n).flushTimer })) ∧
    (b.filled + 1 = b.capacity → Gives (.slotWriteComplete .accepted) s
      ((s.freePort.accept t).setStream n { s.stream n with
        inFlight := none
        counters := { (s.stream n).counters with slotsWritten := satInc (s.stream n).counters.slotsWritten }
        current := some { b with filled := b.filled + 1, stamp := if b.filled = 0 then some s.time else b.stamp }
        flushTimer := none
        position := .closingBuffer
        job := .closingFields { address := b.address, nextRecord := b.nextRecord, filled := b.capacity, stamp := if b.filled = 0 then some s.time else b.stamp, reason := .capacity } })) ∧
    Gives (.slotWriteComplete .error) s
      ((s.freePort.linkError .writeError (.stream n) t.address).setStream n { s.stream n with
        inFlight := none
        counters := { (s.stream n).counters with droppedFault := satInc (s.stream n).counters.droppedFault }
        flushTimer := none
        position := .closingBuffer
        job := .closingFields { address := b.address, nextRecord := b.nextRecord, filled := b.filled, stamp := b.stamp, reason := .fault } })) ∧
  ∀ (s : State) (t : Transfer) (n : StreamId) (b : HeldBuffer) (w written : StreamWriter) (stamp : Option Time),
    s.carries t (.slotWrite n) → w = s.stream n → w.current = some b → stamp = (if b.filled = 0 then some s.time else b.stamp) →
    written = { w with
      inFlight := none
      counters := { w.counters with slotsWritten := satInc w.counters.slotsWritten }
      current := some { b with filled := b.filled + 1, stamp := stamp }
      flushTimer := if b.filled = 0 ∧ w.flushInterval ≠ 0 then some (s.time + BitVec.ofNat 48 (w.flushInterval * 1000)) else w.flushTimer } →
    (w.phase = .opened ∨ w.phase = .closing → w.flushWaits = true → b.filled + 1 < b.capacity →
      Gives (.slotWriteComplete .accepted) s
        ((s.freePort.accept t).setStream n (written.afterCloseBegun b (b.filled + 1) stamp .flush))) ∧
    (w.phase = .closing →
      (w.flushWaits = false → b.filled + 1 < b.capacity → w.fifo ≠ [] →
        Gives (.slotWriteComplete .accepted) s ((s.freePort.accept t).setStream n written)) ∧
      (w.flushWaits = false → b.filled + 1 < b.capacity → w.fifo = [] → w.position = .holding → w.job = .none →
        Gives (.slotWriteComplete .accepted) s
          ((s.freePort.accept t).setStream n (written.afterCloseBegun b (b.filled + 1) stamp .close)))) ∧
    (w.phase = .opened ∨ w.phase = .closing →
      (b.filled + 1 = b.capacity → Gives (.slotWriteComplete .accepted) s
        ((s.freePort.accept t).setStream n (written.afterCloseBegun b b.capacity stamp .capacity))) ∧
      Gives (.slotWriteComplete .error) s
        ((s.freePort.linkError .writeError (.stream n) t.address).setStream n (StreamWriter.afterCloseBegun { w with
          inFlight := none
          counters := { w.counters with droppedFault := satInc w.counters.droppedFault } } b b.filled b.stamp .fault)))

/-- FLUSH_TIMER_EXPIRY completes on a holding buffer (R145): with no slot in flight the close begins, with one it waits. -/
def Obligations.FlushTimerExpiryClosesBuffer : Prop :=
  ∀ (s : State) (n : StreamId) (b : HeldBuffer), (s.stream n).flushTimer = some s.time → (s.stream n).current = some b →
    (s.stream n).phase = .opened ∨ (s.stream n).phase = .closing →
    ((s.stream n).inFlight = none → Gives (.flushTimerExpiry n) s (s.setStream n { s.stream n with
      flushTimer := none
      flushWaits := false
      position := .closingBuffer
      job := .closingFields { address := b.address, nextRecord := b.nextRecord, filled := b.filled, stamp := b.stamp, reason := .flush } })) ∧
    ((s.stream n).inFlight.isSome = true →
      exec (.flushTimerExpiry n) s = .next (s.setStream n { s.stream n with flushTimer := none, flushWaits := true }))

/-- MARK_WRITE_COMPLETE completes (R146): the counts, BUFFER under notify-on-close, STREAM after a FAULT close; then by the state. OPEN (R147,
R151) goes to the next record, or starves at end-of-chain with STREAM. A FAULT close under HALT halts the stream in any state (R153). CLOSING
(R150) is CLOSED with the FIFO empty, goes on, or starves while draining. STARVED after a bad record under SKIP (R148) checks the next record
or waits at end-of-chain, and there checks for a fetch that came meanwhile (log entries 8 and 18; that the read of the next record is not yet
that check: log entry 38). -/
def Obligations.MarkWriteMovesOn : Prop :=
  ∀ (s : State) (t : Transfer) (n : StreamId) (c : BufferClose) (w : StreamWriter) (after : StreamWriter → State),
    s.carries t (.markWrite n) → w = s.stream n → w.job = .mark c →
    (∀ v, after v = (((s.freePort.accept t).setStream n v).raiseIf w.notifyOnClose .buffer).raiseIf (decide (c.reason = .fault)) .stream) →
    (c.reason = .fault → w.faultPolicy = .halt → Gives (.markWriteComplete .accepted) s (after { w.afterCloseCounted with
      phase := .halted
      fifo := []
      counters := { w.afterCloseCounted.counters with droppedFault := satAdd w.counters.droppedFault w.fifo.length }
      position := .none
      flushTimer := none
      flushWaits := false
      recheck := none })) ∧
    (c.reason ≠ .fault ∨ w.faultPolicy = .skip →
      (w.phase = .opened →
        (c.nextRecord ≠ 0 → Gives (.markWriteComplete .accepted) s
          (after { w.afterCloseCounted with
            position := .readingAt c.nextRecord
            currentRecord := c.nextRecord
            job := .read c.nextRecord })) ∧
        (c.nextRecord = 0 → Gives (.markWriteComplete .accepted) s
          (State.raise (after { w.afterCloseCounted with phase := .starved, position := .waitingAtEnd, currentRecord := 0 }) .stream))) ∧
      (w.phase = .closing →
        (w.fifo = [] → Gives (.markWriteComplete .accepted) s (after w.afterCloseCounted.afterClosedEntry)) ∧
        (w.fifo ≠ [] → c.nextRecord = 0 → Gives (.markWriteComplete .accepted) s (after w.afterCloseCounted.afterStarvedDrain)) ∧
        (w.fifo ≠ [] → c.nextRecord ≠ 0 → Gives (.markWriteComplete .accepted) s
          (after { w.afterCloseCounted.afterReadWanted c.nextRecord with position := .readingAt c.nextRecord }))) ∧
      (w.phase = .starved → c.reason = .fault →
        (c.nextRecord ≠ 0 → Gives (.markWriteComplete .accepted) s (after (w.afterCloseCounted.afterReadWanted c.nextRecord))) ∧
        (c.nextRecord = 0 → w.recheck = none ∨ w.recheck = some 0 → Gives (.markWriteComplete .accepted) s
          (after { w.afterCloseCounted with position := .waitingAtEnd, currentRecord := 0, recheck := none })) ∧
        ∀ head, c.nextRecord = 0 → w.recheck = some head → head ≠ 0 → Gives (.markWriteComplete .accepted) s
          (after { w.afterCloseCounted.afterReadWanted head with position := .waitingAtEnd, recheck := none })))

/-- EMPTY_MARK_WRITE_COMPLETE and STREAM_WRITE_BACK_COMPLETE complete (R150, R154): the stream is CLOSED; the stream is as it was. -/
def Obligations.EmptyMarkClosesAndWriteBackLeaves : Prop :=
  ∀ (s : State) (t : Transfer) (n : StreamId),
    (s.carries t (.emptyMarkWrite n) → Gives (.emptyMarkWriteComplete .accepted) s
      ((s.freePort.accept t).setStream n { s.stream n with
        phase := .closed
        owed := true
        position := .none
        current := none
        flushTimer := none
        flushWaits := false
        job := .none
        recheck := none })) ∧
    (s.carries t (.streamWriteBack n) →
      Gives (.streamWriteBackComplete .accepted) s (s.freePort.accept t) ∧
      Gives (.streamWriteBackComplete .error) s (s.freePort.linkError .writeError (.stream n) t.address))

/-- R152, R153: a link error on any Buffer Record transfer halts the stream under either policy. -/
def Obligations.RecordErrorHaltsStream : Prop :=
  ∀ (c : Instr) (s : State) (t : Transfer) (n : StreamId) (kind : FaultKind), s.carries t t.kind → ends c t.kind = true →
    errorOf c = some kind →
    t.kind = .bufferRecordRead n ∨ t.kind = .fillingWrite n ∨ t.kind = .closingFieldsWrite n ∨ t.kind = .markWrite n ∨
      t.kind = .emptyMarkWrite n →
    Gives c s (State.raise ((s.freePort.linkError kind (.stream n) t.address).setStream n { s.stream n with
      phase := .halted
      owed := true
      fifo := []
      counters := { (s.stream n).counters with
        droppedFault := satAdd (s.stream n).counters.droppedFault (s.stream n).fifo.length }
      position := .none
      current := none
      flushTimer := none
      flushWaits := false
      job := .none
      recheck := none }) .stream)

/-! ### Transfer Arbiter -/

/-- R163: the lowest priority number, then the first stream met upward from the rotation point plus 1, wrapping from 15 to 0. -/
def Obligations.SlotChoice : Prop :=
  ∀ (s : State) (n : StreamId), chooseSlot s s.slotRequests = some n ↔
    (s.stream n).slotWaiting = true ∧
    ∀ m, (s.stream m).slotWaiting = true → (s.stream n).priority ≤ (s.stream m).priority ∧
      ((s.stream m).priority = (s.stream n).priority → ∃ i j : Nat, i ≤ j ∧ j < 16 ∧
        n.val = (s.arbiter.rotation.val + 1 + i) % 16 ∧ m.val = (s.arbiter.rotation.val + 1 + j) % 16)

/-- TRANSFER_GRANT completes with the port free (R158 to R162). With no request that the grant may be taken before: the head of the Record Queue is
granted what its requester transfers first, whole with its bytes (R111, R130, R138, R141, R142, R144, R146, R150, R154, R170, R172, R174,
R181); with the queue empty, the slot write chosen; with nothing waiting, nothing. A request with nothing left to transfer is withdrawn and the
Arbiter grants again (R159). A head that has something to transfer is granted before every newer request; a race (R161) has one of its two
outcomes, by the free values of log entry 2. Where nothing else waits there is no race: new requests alone, and the stream whose completion
freed the port when it is the only one waiting, are granted at once; with both new requests and such a stream, one of the outcomes of the two
races together. Addresses are added modulo 2^64 (log entry 21). -/
def Obligations.TransferGrantIssues : Prop :=
  (∀ s : State, s.arbiter.port = none → s.arbiter.fresh = 0 → s.arbiter.handedTo = none →
    (∀ rest, s.arbiter.queue = .status .station :: rest → s.status.stationOwed = true →
      exec .transferGrant s = .next { s with
        status := { s.status with stationOwed := false, stationUpdates := s.status.stationUpdates + 1 }
        arbiter := { s.arbiter with
          queue := rest
          port := some
            { kind := .statusRecordWrite .station, address := s.link.base + 0x100#64, size := 128
              data := stationRecordBytes s (s.status.stationUpdates + 1), abandoned := false } } }) ∧
    (∀ n rest, s.arbiter.queue = .status (.lane n) :: rest → s.status.lanesOwed[n] = true →
      exec .transferGrant s = .next { s with
        status := { s.status with
          lanesOwed := s.status.lanesOwed.set n false
          laneUpdates := s.status.laneUpdates.set n (s.status.laneUpdates[n] + 1) }
        arbiter := { s.arbiter with
          queue := rest
          port := some
            { kind := .statusRecordWrite (.lane n), address := s.link.base + BitVec.ofNat 64 (0x500 + 64 * n.val), size := 64
              data := laneRecordBytes (s.lane n) s.survey.lastMean[n] (s.status.laneUpdates[n] + 1), abandoned := false } } }) ∧
    (∀ n rest, s.arbiter.queue = .fetcher :: rest → (s.answer n).owed = true → (∀ m, m < n → (s.answer m).owed = false) →
      exec .transferGrant s = .next { s.setAnswer n { s.answer n with owed := false } with
        arbiter := { s.arbiter with
          queue := rest
          port := some
            { kind := .laneSlotWriteBack n (s.answer n).image.mark, address := s.link.base + BitVec.ofNat 64 (0x200 + 64 * n.val + 0x30)
              size := 16, data := (s.answer n).image.bytes, abandoned := false } } }) ∧
    (∀ rest, s.arbiter.queue = .fetcher :: rest → (∀ n, (s.answer n).owed = false) →
      (s.link.device = .loading → s.fetcher.loadRead = .wanted →
        exec .transferGrant s = .next { s with
          fetcher := { s.fetcher with loadRead := .issued }
          arbiter := { s.arbiter with
            queue := rest
            port := some
              { kind := .stationBlockRead, address := s.link.base + 0#64, size := 256, data := [], abandoned := false } } }) ∧
      (∀ table next restart, s.link.device = .running → s.router.shadow = .filling table next restart →
        exec .transferGrant s = .next { s with
          arbiter := { s.arbiter with
            queue := rest
            port := some
              { kind := .filterBlockRead next, address := s.link.base + BitVec.ofNat 64 (0xC00 + 256 * next.val), size := 256, data := []
                abandoned := false } } }) ∧
      (s.link.device = .running → s.router.shadow.isFilling = false → s.fetcher.item = none →
        (∀ n : LaneId, s.fetcher.pendingSet.lanes[n] = true → (∀ m : LaneId, m < n → s.fetcher.pendingSet.lanes[m] = false) →
          exec .transferGrant s = .next { s with
            fetcher := { s.fetcher with
              item := some (.lane n), pendingSet := { s.fetcher.pendingSet with lanes := s.fetcher.pendingSet.lanes.set n false } }
            arbiter := { s.arbiter with
              queue := rest
              port := some
                { kind := .laneSlotRead n, address := s.link.base + BitVec.ofNat 64 (0x200 + 64 * n.val), size := 64, data := []
                  abandoned := false } } }) ∧
        ((∀ n : LaneId, s.fetcher.pendingSet.lanes[n] = false) → s.fetcher.pendingSet.filter = true →
          exec .transferGrant s = .next { s with
            fetcher := { s.fetcher with item := some .filter, pendingSet := { s.fetcher.pendingSet with filter := false } }
            router := { s.router with shadow := .filling (Vector.replicate 256 none) 0 false }
            arbiter := { s.arbiter with
              queue := rest
              port := some
                { kind := .filterBlockRead 0, address := s.link.base + 0xC00#64, size := 256, data := [], abandoned := false } } }) ∧
        ∀ n : StreamId, (∀ m : LaneId, s.fetcher.pendingSet.lanes[m] = false) → s.fetcher.pendingSet.filter = false →
          s.fetcher.pendingSet.streams[n] = true → (∀ m : StreamId, m < n → s.fetcher.pendingSet.streams[m] = false) →
          exec .transferGrant s = .next { s with
            fetcher := { s.fetcher with
              item := some (.stream n), pendingSet := { s.fetcher.pendingSet with streams := s.fetcher.pendingSet.streams.set n false } }
            arbiter := { s.arbiter with
              queue := rest
              port := some
                { kind := .streamRecordRead n, address := s.link.base + BitVec.ofNat 64 (0x800 + 64 * n.val), size := 64, data := []
                  abandoned := false } } })) ∧
    (∀ n rest, s.arbiter.queue = .stream n :: rest →
      (∀ t, (∃ a, (s.stream n).job = .read a ∧
            t = { kind := .bufferRecordRead n, address := a, size := 32, data := [], abandoned := false }) ∨
          (∃ b, (s.stream n).job = .filling b ∧
            t = { kind := .fillingWrite n, address := b.address + 0x1F#64, size := 1, data := [1#8], abandoned := false }) ∨
          (∃ c, (s.stream n).job = .closingFields c ∧
            t = { kind := .closingFieldsWrite n, address := c.address + 0x12#64, size := 13, data := c.fieldBytes (s.stream n).sequence, abandoned := false }) ∨
          (∃ c, (s.stream n).job = .mark c ∧
            t = { kind := .markWrite n, address := c.address + 0x1F#64, size := 1, data := [if c.reason = .fault then 3#8 else 2#8], abandoned := false }) ∨
          (∃ a, (s.stream n).job = .emptyMark a ∧
            t = { kind := .emptyMarkWrite n, address := a + 0x1F#64, size := 1, data := [0#8], abandoned := false }) →
        exec .transferGrant s = .next { s with arbiter := { s.arbiter with queue := rest, port := some t } }) ∧
      ((s.stream n).job = .none → (s.stream n).owed = true →
        exec .transferGrant s = .next { s.setStream n { s.stream n with owed := false, reported := (s.stream n).counters } with
          arbiter := { s.arbiter with
            queue := rest
            port := some
              { kind := .streamWriteBack n, address := s.link.base + BitVec.ofNat 64 (0x800 + 64 * n.val + 0x10), size := 48
                data := (s.stream n).writeBackBytes, abandoned := false } } })) ∧
    (∀ n b slot rest, s.arbiter.queue = [] → chooseSlot s s.slotRequests = some n → (s.stream n).fifo = slot :: rest →
      (s.stream n).current = some b →
      exec .transferGrant s = .next { s.setStream n { s.stream n with fifo := rest, inFlight := some slot } with
        arbiter := { s.arbiter with
          rotation := n
          port := some
            { kind := .slotWrite n, address := b.dataArea + BitVec.ofNat 64 (192 * b.filled), size := 192, data := slot.bytes192
              abandoned := false } } }) ∧
    (s.arbiter.queue = [] → s.slotRequests = [] → exec .transferGrant s = .next s)) ∧
  ∀ s : State, s.arbiter.port = none →
    (∀ r rest, s.arbiter.queue = r :: rest → s.hasTransfer r = false → s.arbiter.fresh < s.arbiter.queue.length →
      exec .transferGrant s = exec .transferGrant { s with arbiter := { s.arbiter with queue := rest } }) ∧
    ∀ t, t = { s with picks := s.picks + 1, arbiter := { s.arbiter with fresh := 0, handedTo := none } } →
    (∀ r rest, s.arbiter.queue = r :: rest → s.hasTransfer r = true → s.arbiter.fresh < s.arbiter.queue.length →
      s.arbiter.fresh ≠ 0 ∨ s.arbiter.handedTo ≠ none → exec .transferGrant s = exec .transferGrant t) ∧
    (∀ n, s.arbiter.queue ≠ [] → s.arbiter.fresh = s.arbiter.queue.length → s.arbiter.handedTo = none →
      chooseSlot s s.slotRequests = some n →
      exec .transferGrant s = exec .transferGrant t ∨ exec .transferGrant s = .next (t.grantSlot n)) ∧
    (∀ h n m, s.arbiter.queue = [] → s.arbiter.fresh = 0 → s.arbiter.handedTo = some h → chooseSlot s s.slotRequests = some n →
      chooseSlot s (s.slotRequests.filter fun k => k != h) = some m →
      exec .transferGrant s = .next (t.grantSlot n) ∨ exec .transferGrant s = .next (t.grantSlot m)) ∧
    (s.arbiter.fresh ≠ 0 ∨ s.arbiter.handedTo ≠ none → s.arbiter.fresh = s.arbiter.queue.length → s.slotRequests = [] →
      exec .transferGrant s = exec .transferGrant t) ∧
    (∀ h n, s.arbiter.queue = [] → s.arbiter.fresh = 0 → s.arbiter.handedTo = some h → chooseSlot s s.slotRequests = some n →
      (s.slotRequests.filter fun k => k != h) = [] → exec .transferGrant s = .next (t.grantSlot n)) ∧
    ∀ h n, s.arbiter.queue ≠ [] → s.arbiter.fresh = s.arbiter.queue.length → s.arbiter.handedTo = some h →
      chooseSlot s s.slotRequests = some n →
      exec .transferGrant s = exec .transferGrant t ∨ exec .transferGrant s = .next (t.grantSlot n) ∨
      ∃ m, chooseSlot s (s.slotRequests.filter fun k => k != h) = some m ∧
        (exec .transferGrant s = .next (t.grantSlot m) ∨
          (∀ r ∈ s.arbiter.queue, s.hasTransfer r = false) ∧
            exec .transferGrant s = .next (State.grantSlot { t with arbiter := { t.arbiter with queue := [] } } m))

/-- R159, R160: each requester has at most one class-1 request outstanding, after every command; a transfer abandoned by a soft reset counts
for none (log entry 35). -/
def Obligations.RequestsKeptSingle : Prop :=
  ∀ s t : State, RequestsSingle s → step s = .next t → RequestsSingle t ∧ t.arbiter.queue.length ≤ 30

/-- R115, R117, R143, R167: the queues stay within their capacities, no packet stays in hand, the base stays aligned. And R150, R153, R156: streams
at rest stay as these rules say, in STOPPING with their counters in their write-back or one owed (log entry 31). -/
def Obligations.CapacitiesKept : Prop :=
  ∀ s t : State, QueuesBounded s → BaseAligned s → step s = .next t →
    QueuesBounded t ∧ BaseAligned t ∧ (StreamsAtRest s → StreamsAtRest t)

/-- The invariants hold right after reset. -/
def Obligations.InvariantsHoldAtReset : Prop :=
  ReceptionSound State.reset ∧ QualityInRange State.reset ∧ PlansInRange State.reset ∧ RequestsSingle State.reset ∧
    QueuesBounded State.reset ∧ BaseAligned State.reset ∧ SurveySettled State.reset ∧ ChannelsApart State.reset ∧ StreamsAtRest State.reset

/-! ### Device states, Attention, notices and registers -/

/-- RUN_SET and RUN_CLEAR complete (R169, R171), state by state. At the start of STOPPING lanes are OFF (R68), the Survey Unit and its tap idle
(R7, R85), an owed answer that is ACCEPTED is no longer owed and any other stays owed (R114; what such an ACCEPTED had replaced: log entry
33), OPEN and STARVED streams take a CLOSE and the others stay, with a write-back owed for counts that the last one of a CLOSED or HALTED stream
does not carry (R156; log entry 31; no head address: log entry 20; a check not yet granted counts as in
flight: log entry 34), and a table being filled is given up at once unless a read of it is in flight (R135). Nothing else differs: no Status
Record becomes owed and no notice is raised (R68). -/
def Obligations.RunWritesMoveDevice : Prop :=
  ∀ s : State,
    (s.link.device = .idle → Gives .runSet s { s with
      link := { s.link with run := true, device := .loading, loadFault := .none }, fetcher := { s.fetcher with loadRead := .wanted } }) ∧
    (s.link.device ≠ .idle → exec .runSet s = .next { s with link := { s.link with run := true } }) ∧
    (s.link.device = .idle ∨ s.link.device = .stopping → exec .runClear s = .next { s with link := { s.link with run := false } }) ∧
    (s.link.device = .loading → exec .runClear s = .next { s with
      link := { s.link with run := false, device := .idle }, fetcher := { s.fetcher with loadRead := .none, pendingSet := .empty } }) ∧
    (s.link.device = .faulted → exec .runClear s = .next { s with
      link := { s.link with run := false, device := .idle }, fetcher := { s.fetcher with pendingSet := .empty } }) ∧
    (s.link.device = .running → ∃ u, Gives .runClear s u ∧
      u.link = { s.link with run := false, device := .stopping } ∧
      (∀ n, u.lane n = { Lane.reset with
        appliedTag := (s.lane n).appliedTag
        activeMast := (s.lane n).activeMast
        counters := (s.lane n).counters
        lastChange := if (s.lane n).phase = .off then (s.lane n).lastChange else s.time }) ∧
      (∀ n, u.answer n = { s.answer n with owed := (s.answer n).owed && decide ((s.answer n).image.mark ≠ .accepted) }) ∧
      u.survey = { s.survey with queue := [], dwell := none, tap := .idle } ∧
      (∀ n, (u.stream n).phase ≠ .opened ∧ (u.stream n).phase ≠ .starved) ∧
      (∀ n, ((s.stream n).phase = .opened ∨ (s.stream n).phase = .starved → TakesClose (s.stream n) 0 (u.stream n)) ∧
        ((s.stream n).phase = .closing → u.stream n = s.stream n) ∧
        ((s.stream n).phase = .closed ∨ (s.stream n).phase = .halted → OwesFinalCounts (s.stream n) (u.stream n))) ∧
      u.fetcher.pendingSet = .empty ∧ u.status = { s.status with intervalTimer := none } ∧
      (∀ entries next restart, s.router.shadow = .filling entries next restart →
        ((∀ j, s.inFlight ≠ some (.filterBlockRead j)) → u.router.shadow = .none ∧ u.fetcher.item = none) ∧
        ∀ j, s.inFlight = some (.filterBlockRead j) → u.router.shadow = s.router.shadow ∧ u.fetcher.item = s.fetcher.item) ∧
      (∀ entries, s.router.shadow = .ready entries → u.router.shadow = s.router.shadow ∧ u.fetcher.item = s.fetcher.item) ∧
      (s.router.shadow = .none → u.router.shadow = .none ∧ u.fetcher.item = s.fetcher.item) ∧
      { u.router with shadow := s.router.shadow } = s.router ∧
      { u.fetcher with answers := s.fetcher.answers, pendingSet := s.fetcher.pendingSet, item := s.fetcher.item } = s.fetcher ∧
      { u with
        lanes := s.lanes
        survey := s.survey
        streams := s.streams
        fetcher := s.fetcher
        router := s.router
        link := s.link
        status := s.status } = s)

/-- STATION_BLOCK_READ_COMPLETE completes (R170, R171, R172): a good block, a wrong signature, a wrong version, a failed read; and the read of a
load that has been abandoned, whose data is discarded, a newer load that waits reading afresh (R169). And the settings
that a good block puts into force: trims and thresholds (R2), Mode Entries (R16, R17), survey order (R74), adjustment flags. -/
def Obligations.StationBlockReadEndsLoad : Prop :=
  (∀ (s : State) (t : Transfer) (block : Vector Byte 256), s.carries t .stationBlockRead → s.link.device = .loading →
    s.fetcher.loadRead = .issued →
    (field block 0 4 = 0x4B440001 → field block 4 2 = 1 → Gives (.stationBlockReadComplete (.data block)) s { s.freePort with
      station := settingsOf block
      link := { s.link with device := .running }
      mastA := { s.mastA with above := false }
      mastB := { s.mastB with above := false }
      fetcher := { s.fetcher with
        loadRead := .none
        pendingSet := { lanes := Vector.replicate 12 true, filter := true, streams := Vector.replicate 16 true, statusNow := s.fetcher.pendingSet.statusNow } }
      status := { s.status with intervalTimer := if (settingsOf block).statusInterval = 0 then none else some (s.time + BitVec.ofNat 48 ((settingsOf block).statusInterval * 10000)) } }) ∧
    (∀ reason, (reason = .badSignature ∧ field block 0 4 ≠ 0x4B440001) ∨
        (reason = .badVersion ∧ field block 0 4 = 0x4B440001 ∧ field block 4 2 ≠ 1) →
      Gives (.stationBlockReadComplete (.data block)) s (State.oweStation (State.raise { s.freePort with
        link := { s.link with device := .faulted, loadFault := reason }
        fetcher := { s.fetcher with loadRead := .none, pendingSet := .empty } } .fault))) ∧
    ∃ u, exec (.stationBlockReadComplete .error) s = .next u ∧ u.link.device = .faulted ∧ u.link.loadFault = .linkError ∧
      u.station = s.station ∧ u.link.notice.getLsbD 5 = true ∧ u.status.stationOwed = true) ∧
  (∀ (s : State) (t : Transfer) (block : Vector Byte 256), s.carries t .stationBlockRead →
    s.link.device ≠ .loading ∨ s.fetcher.loadRead ≠ .issued →
    Gives (.stationBlockReadComplete (.data block)) s s.freePort ∧
    Gives (.stationBlockReadComplete .error) s (s.freePort.linkError .readError .planFetcher t.address)) ∧
  ∀ (block : Vector Byte 256) (g : StationSettings), g = settingsOf block →
    g.trimA = max (-16) (min 15 (byteAt block 0x08).toInt) ∧ g.trimB = max (-16) (min 15 (byteAt block 0x09).toInt) ∧
    g.thresholdA = (byteAt block 0x0A).toNat ∧ g.thresholdB = (byteAt block 0x0B).toNat ∧
    (g.surveyOrder = .lane ↔ byteAt block 0x0C = 1#8) ∧ g.statusInterval = (byteAt block 0x0D).toNat ∧
    g.adjusted.getLsbD 0 = decide (g.trimA ≠ (byteAt block 0x08).toInt) ∧
    g.adjusted.getLsbD 1 = decide (g.trimB ≠ (byteAt block 0x09).toInt) ∧
    g.adjusted.getLsbD 10 = decide (1 < (byteAt block 0x0C).toNat) ∧ (∀ i, 11 ≤ i → g.adjusted.getLsbD i = false) ∧
    ∀ (n : EntryId) (o core period : Nat), o = 0x10 + 8 * n.val → period = field block (o + 2) 2 →
      core = (if byteAt block (o + 1) = 1#8 then 2048 else if byteAt block (o + 1) = 2#8 then 4096 else 8192) →
      ∀ enabled valid : Prop, (enabled ↔ (byteAt block o).getLsbD 0 = true) →
      (valid ↔ (byteAt block (o + 1) = 1#8 ∨ byteAt block (o + 1) = 2#8 ∨ byteAt block (o + 1) = 3#8) ∧
        core < period ∧ period ≤ core + core / 4) →
      (¬(enabled ∧ valid) → g.modes[n] = none ∧ g.adjusted.getLsbD (2 + n.val) = false) ∧
      (g.rejected.getLsbD n.val = true ↔ enabled ∧ ¬valid) ∧
      (enabled ∧ valid → ∃ e, g.modes[n] = some e ∧ e.carrier.core = core ∧ e.period = period ∧
        e.tolerance = max 1 (min 4 (byteAt block (o + 4)).toNat) ∧ e.matchCount = max 2 (min 32 (byteAt block (o + 5)).toNat) ∧
        e.missCount = max 1 (min 8 (byteAt block (o + 6)).toNat) ∧
        (g.adjusted.getLsbD (2 + n.val) = true ↔ e.tolerance ≠ (byteAt block (o + 4)).toNat ∨
          e.matchCount ≠ (byteAt block (o + 5)).toNat ∨ e.missCount ≠ (byteAt block (o + 6)).toNat))

/-- STATUS_INTERVAL_EXPIRY completes (R173): all thirteen records are owed and the timer restarts from the expiry. STOP_COMPLETE completes when
R171's conditions hold: all thirteen are owed. While one of them fails, or once the final group has begun, it changes nothing (that the event
does not arise then: log entry 3; that a shadow table is no longer held: log entry 9). -/
def Obligations.ThirteenRecordsOwed : Prop :=
  (∀ s : State, s.status.intervalTimer = some s.time → s.station.statusInterval ≠ 0 →
    Gives .statusIntervalExpiry s { s with status := { s.status with
      stationOwed := true
      lanesOwed := Vector.replicate 12 true
      intervalTimer := some (s.time + BitVec.ofNat 48 (s.station.statusInterval * 10000)) } }) ∧
  (∀ s : State, s.link.device = .stopping → s.status.finalGroup = false → s.router.queue = [] → s.router.inHand = none →
    s.router.shadow = .none →
    (∀ n, ((s.stream n).phase = .closed ∨ (s.stream n).phase = .halted) ∧ (s.stream n).job = .none ∧ (s.stream n).owed = false ∧
      (s.stream n).inFlight = none ∧ (s.stream n).slotWaiting = false) →
    (∀ n, (s.answer n).owed = false) → s.arbiter.queue = [] → s.arbiter.port = none →
    Gives .stopComplete s { s with status := { s.status with
      finalGroup := true, stationOwed := true, lanesOwed := Vector.replicate 12 true } }) ∧
  ∀ s : State, s.link.device = .stopping →
    s.status.finalGroup = true ∨ s.router.queue ≠ [] ∨ s.router.inHand ≠ none ∨ s.router.shadow ≠ .none ∨
      (∃ n, ((s.stream n).phase ≠ .closed ∧ (s.stream n).phase ≠ .halted) ∨ (s.stream n).job ≠ .none ∨ (s.stream n).owed = true ∨
        (s.stream n).inFlight ≠ none ∨ (s.stream n).slotWaiting = true) ∨
      (∃ n, (s.answer n).owed = true) ∨ s.arbiter.queue ≠ [] ∨ s.arbiter.port ≠ none →
    exec .stopComplete s = .next s

/-- STATUS_RECORD_WRITE_COMPLETE completes (R171, R174), accepted or with a WRITE_ERROR, which is not repeated: nothing follows but, in the final
group, after the last write, which ends STOPPING. -/
def Obligations.StatusRecordWriteEnds : Prop :=
  ∀ (s ended : State) (t : Transfer) (r : StatusRecord) (result : WriteResult), s.carries t (.statusRecordWrite r) →
    ended = (if result = .accepted then s.freePort.accept t else s.freePort.linkError .writeError .statusWriter t.address) →
    (s.status.finalGroup = false → Gives (.statusRecordWriteComplete result) s ended) ∧
    (s.arbiter.queue ≠ [] ∨ s.status.stationOwed = true ∨ (∃ n : LaneId, s.status.lanesOwed[n] = true) →
      Gives (.statusRecordWriteComplete result) s ended) ∧
    (s.link.device = .stopping → s.status.finalGroup = true → s.arbiter.queue = [] → s.status.stationOwed = false →
      (∀ n : LaneId, s.status.lanesOwed[n] = false) →
      ∃ u, exec (.statusRecordWriteComplete result) s = .next u ∧
        u.link.device = (if s.link.run = true then .loading else .idle) ∧ u.link.notice.getLsbD 6 = true ∧
        u.link.linkErrors = ended.link.linkErrors ∧ u.link.lastFault = ended.link.lastFault ∧
        u.status.finalGroup = false ∧ u.fetcher.pendingSet = .empty ∧ (∀ n, (u.answer n).lastAnswered = none) ∧
        u.lanes = s.lanes ∧ u.streams = s.streams ∧ u.station = s.station ∧ u.time = s.time)

/-- The four Attention commands complete in LOADING and RUNNING (R131, R172), and are ignored in the other states. -/
def Obligations.AttentionAddsItems : Prop :=
  ∀ s : State,
    (s.link.device = .loading ∨ s.link.device = .running →
      (∀ n, Gives (.attentionLane n) s { s with fetcher := { s.fetcher with
        pendingSet := { s.fetcher.pendingSet with lanes := s.fetcher.pendingSet.lanes.set n true } } }) ∧
      (∀ n, Gives (.attentionStream n) s { s with fetcher := { s.fetcher with
        pendingSet := { s.fetcher.pendingSet with streams := s.fetcher.pendingSet.streams.set n true } } }) ∧
      Gives .attentionStatusNow s { s with fetcher := { s.fetcher with
        pendingSet := { s.fetcher.pendingSet with statusNow := true } } } ∧
      ((∀ table next restart, s.router.shadow ≠ .filling table next restart) → Gives .attentionFilter s { s with fetcher := { s.fetcher with
        pendingSet := { s.fetcher.pendingSet with filter := true } } }) ∧
      ∀ table next restart, s.router.shadow = .filling table next restart →
        (∀ j, s.inFlight = some (.filterBlockRead j) →
          Gives .attentionFilter s { s with router := { s.router with shadow := .filling table next true } }) ∧
        ((∀ j, s.inFlight ≠ some (.filterBlockRead j)) →
          Gives .attentionFilter s { s with router := { s.router with shadow := .filling table 0 false } })) ∧
    (s.link.device = .idle ∨ s.link.device = .stopping ∨ s.link.device = .faulted →
      (∀ n, exec (.attentionLane n) s = .next s) ∧ (∀ n, exec (.attentionStream n) s = .next s) ∧
      exec .attentionFilter s = .next s ∧ exec .attentionStatusNow s = .next s)

/-- EXCHANGE_BASE_LOW and EXCHANGE_BASE_HIGH complete in IDLE and FAULTED and are ignored otherwise (R167). -/
def Obligations.ExchangeBaseWrites : Prop :=
  ∀ (s : State) (value : BitVec 32),
    (s.link.device = .idle ∨ s.link.device = .faulted →
      (∃ base : Addr, exec (.exchangeBaseLow value) s = .next { s with link := { s.link with base := base } } ∧
        base.toNat = s.link.base.toNat / 2 ^ 32 * 2 ^ 32 + value.toNat / 4096 * 4096) ∧
      ∃ base : Addr, exec (.exchangeBaseHigh value) s = .next { s with link := { s.link with base := base } } ∧
        base.toNat = value.toNat * 2 ^ 32 + s.link.base.toNat % 2 ^ 32) ∧
    (s.link.device ≠ .idle → s.link.device ≠ .faulted →
      exec (.exchangeBaseLow value) s = .next s ∧ exec (.exchangeBaseHigh value) s = .next s)

/-- NOTICE_CLEAR and NOTICE_ENABLE complete in every state (R176, R177): which causes stay, which are enabled, and when a message goes out. And a
raise, wherever a command makes one: its bit and no other is set, and one message goes out exactly when the cause is enabled and no enabled
cause was set. -/
def Obligations.NoticeWrites : Prop :=
  (∀ (s : State) (c : Cause) (k : Nat), k = (match c with
      | .plan => 0 | .lane => 1 | .buffer => 2 | .stream => 3 | .filter => 4 | .fault => 5 | .stopped => 6) →
    (∀ i, (s.raise c).link.notice.getLsbD i = (s.link.notice.getLsbD i || decide (i = k))) ∧
    (s.link.enable.getLsbD k = true → (∀ i, i < 7 → (s.link.notice.getLsbD i && s.link.enable.getLsbD i) = false) →
      (s.raise c).output.messages = s.output.messages + 1) ∧
    (s.link.enable.getLsbD k = false ∨ (∃ i, i < 7 ∧ (s.link.notice.getLsbD i && s.link.enable.getLsbD i) = true) →
      (s.raise c).output.messages = s.output.messages) ∧
    (s.raise c).output.writes = s.output.writes ∧
    { s.raise c with link := { (s.raise c).link with notice := s.link.notice }, output := s.output } = s ∧
    ∀ b, s.raiseIf b c = if b = true then s.raise c else s) ∧
  ∀ (s : State) (value : BitVec 32),
    (∃ t, exec (.noticeClear value) s = .next t ∧
      (∀ i, i < 7 → t.link.notice.getLsbD i = (s.link.notice.getLsbD i && !value.getLsbD i)) ∧
      t.link.enable = s.link.enable ∧ t.output = s.output ∧ { t with link := { t.link with notice := s.link.notice } } = s) ∧
    ∃ t, exec (.noticeEnable value) s = .next t ∧ (∀ i, i < 7 → t.link.enable.getLsbD i = value.getLsbD i) ∧
      t.output.writes = s.output.writes ∧
      ((∀ i, i < 7 → (s.link.notice.getLsbD i && s.link.enable.getLsbD i) = false) →
        (∃ i, i < 7 ∧ (s.link.notice.getLsbD i && value.getLsbD i) = true) → t.output.messages = s.output.messages + 1) ∧
      ((∃ i, i < 7 ∧ (s.link.notice.getLsbD i && s.link.enable.getLsbD i) = true) ∨
        (∀ i, i < 7 → (s.link.notice.getLsbD i && value.getLsbD i) = false) → t.output.messages = s.output.messages) ∧
      { t with link := { t.link with enable := s.link.enable }, output := s.output } = s

/-- R168: a write that the register window ignores changes nothing; and a read of each register returns what R168 and 11.3 say, with the bits the
table does not list 0; and which commands a host write of each register is (R168, R169, R172; their order: log entry 16; an offset that
holds no register: log entry 32). R2, R175, R181 and chapter 11: the layouts of what the part writes, field by field: the slot tag and slot, the Lane and the
Station Status Record, the write-backs of a Lane Slot and of a Stream Record, the closing fields of a Buffer Record. That every byte of the
Station Status Record which chapter 11 does not list is 0, and that none holds a trim value, is the model's reading (log entry 36). -/
def Obligations.RegisterWindow : Prop :=
  (∀ (s : State),
    (∀ offset value, (Instr.registerWriteIgnored offset value).wellFormed = true →
      exec (.registerWriteIgnored offset value) s = .next s) ∧
    s.readRegister 0x00#8 = some 0x4B440001#32 ∧ s.readRegister 0x10#8 = some 0#32 ∧
    s.readRegister 0x08#8 = some (s.link.base.setWidth 32) ∧
    (∃ w, s.readRegister 0x04#8 = some w ∧ w.getLsbD 0 = s.link.run ∧ w.getLsbD 1 = false ∧
      w.toNat / 256 % 8 = (match s.link.device with | .idle => 0 | .loading => 1 | .running => 2 | .stopping => 3 | .faulted => 4) ∧
      w.toNat / 65536 % 4 = (match s.link.loadFault with | .none => 0 | .badSignature => 1 | .badVersion => 2 | .linkError => 3)) ∧
    (∃ w, s.readRegister 0x14#8 = some w ∧ w.toNat = s.link.notice.toNat) ∧
    ∃ w, s.readRegister 0x18#8 = some w ∧ w.toNat = s.link.enable.toNat) ∧
  (∀ s : State, s.readRegister 0x0C#8 = some (s.link.base.extractLsb' 32 32) ∧
    ∃ w, s.readRegister 0x04#8 = some w ∧ ∀ i, 1 ≤ i → i < 32 → ¬(8 ≤ i ∧ i ≤ 10) → ¬(16 ≤ i ∧ i ≤ 17) → w.getLsbD i = false) ∧
  (∀ (s : State) (offset : BitVec 8) (value : BitVec 32),
    s.hostWrite offset value = { s with pending := s.pending ++ registerWrite offset value }) ∧
  (∀ value : BitVec 32,
    registerWrite 0x00#8 value = [.registerWriteIgnored 0x00#8 value] ∧
    registerWrite 0x04#8 value =
      (if value.getLsbD 1 = true then [.softReset] else if value.getLsbD 0 = true then [.runSet] else [.runClear]) ∧
    registerWrite 0x08#8 value = [.exchangeBaseLow value] ∧ registerWrite 0x0C#8 value = [.exchangeBaseHigh value] ∧
    ((∀ i, i < 30 → value.getLsbD i = false) → registerWrite 0x10#8 value = [.registerWriteIgnored 0x10#8 value]) ∧
    ((∃ i, i < 30 ∧ value.getLsbD i = true) → (registerWrite 0x10#8 value).Nodup ∧ ∀ c, c ∈ registerWrite 0x10#8 value ↔
      (∃ n : LaneId, c = .attentionLane n ∧ value.getLsbD n.val = true) ∨
      (∃ n : StreamId, c = .attentionStream n ∧ value.getLsbD (12 + n.val) = true) ∨
      (c = .attentionFilter ∧ value.getLsbD 28 = true) ∨ (c = .attentionStatusNow ∧ value.getLsbD 29 = true)) ∧
    ((∀ i, i < 7 → value.getLsbD i = false) → registerWrite 0x14#8 value = [.registerWriteIgnored 0x14#8 value]) ∧
    ((∃ i, i < 7 ∧ value.getLsbD i = true) → registerWrite 0x14#8 value = [.noticeClear value]) ∧
    registerWrite 0x18#8 value = [.noticeEnable value]) ∧
  (∀ (offset : BitVec 8) (value : BitVec 32), offset ∉ [0x00#8, 0x04#8, 0x08#8, 0x0C#8, 0x10#8, 0x14#8, 0x18#8] →
    registerWrite offset value = []) ∧
  (∀ p : Slot, p.tag.toNat % 16 = p.lane.val ∧ p.tag.getLsbD 4 = decide (p.mast = .b) ∧ p.tag.getLsbD 5 = p.uncorrectable ∧
    p.tag.getLsbD 6 = p.continuityBreak ∧ p.tag.toNat / 128 = p.stamp.toNat ∧
    p.bytes192.length = 192 ∧ writtenField p.bytes192 0 4 = p.tag.toNat ∧ p.bytes192.drop 4 = p.bytes.toList) ∧
  (∀ (l : Lane) (mean : Option Nat) (updates : Counter) (b : List Byte), b = laneRecordBytes l mean updates →
    b.length = 64 ∧ writtenField b 0x00 4 = updates.toNat ∧ writtenField b 0x3C 4 = updates.toNat ∧
    writtenField b 0x04 1 = (match l.phase with | .off => 0 | .seek => 1 | .track => 2 | .lock => 3 | .fade => 4) ∧ writtenField b 0x05 1 = (if l.activeMast = .a then 0 else 1) ∧
    writtenField b 0x06 1 = (match l.recognizer.recognised with | none => 255 | some e => e.val) ∧
    (l.tracker.qi ≤ 127 → writtenField b 0x07 1 = l.tracker.qi) ∧ (l.tracker.lastRaw ≤ 127 → writtenField b 0x08 1 = l.tracker.lastRaw) ∧
    (mean = none → writtenField b 0x09 1 = 255) ∧ (∀ m, mean = some m → m ≤ 127 → writtenField b 0x09 1 = m) ∧
    writtenField b 0x0A 2 = l.appliedTag.toNat ∧ writtenField b 0x0C 4 = l.counters.delivered.toNat ∧
    writtenField b 0x10 4 = l.counters.uncorrectable.toNat ∧ writtenField b 0x14 4 = l.counters.correctedBytes.toNat ∧
    writtenField b 0x18 4 = l.counters.preLockDiscards.toNat ∧ writtenField b 0x1C 4 = l.counters.routerDrops.toNat ∧
    writtenField b 0x20 4 = l.counters.blankedSymbols.toNat ∧ writtenField b 0x24 4 = l.counters.switches.toNat ∧
    writtenField b 0x28 4 = l.counters.seekCycles.toNat ∧ writtenField b 0x2C 4 = 0 ∧ writtenField b 0x30 8 = l.lastChange.toNat ∧
    writtenField b 0x38 4 = 0) ∧
  (∀ (s : State) (updates : Counter) (b : List Byte), b = stationRecordBytes s updates →
    b.length = 128 ∧ writtenField b 0x00 4 = updates.toNat ∧ writtenField b 0x7C 4 = updates.toNat ∧
    writtenField b 0x04 1 = (if s.status.finalGroup = true then 0 else
      match s.link.device with | .idle => 0 | .loading => 1 | .running => 2 | .stopping => 3 | .faulted => 4) ∧ writtenField b 0x05 3 = 0 ∧
    writtenField b 0x08 8 = s.time.toNat ∧ writtenField b 0x10 4 = s.mastA.count.toNat ∧ writtenField b 0x14 4 = s.mastB.count.toNat ∧
    writtenField b 0x18 4 = s.router.drops.toNat ∧ writtenField b 0x1C 4 = s.router.unmatched.toNat ∧
    writtenField b 0x20 4 = s.router.breaks.toNat ∧ writtenField b 0x24 4 = s.router.repeats.toNat ∧
    writtenField b 0x28 4 = s.fetcher.superseded.toNat ∧ writtenField b 0x2C 4 = s.link.linkErrors.toNat ∧
    writtenField b 0x30 1 = (match s.link.lastFault.kind with | .none => 0 | .readError => 1 | .writeError => 2) ∧
    writtenField b 0x31 1 = (match s.link.lastFault.requester with | .planFetcher => 0 | .statusWriter => 1 | .stream n => 16 + n.val) ∧
    writtenField b 0x32 2 = 0 ∧ writtenField b 0x34 4 = s.link.lastFault.address.toNat ∧
    writtenField b 0x38 8 = s.link.lastFault.time.toNat ∧ writtenField b 0x40 4 = s.router.version.toNat ∧
    writtenField b 0x44 1 = s.station.rejected.toNat ∧ writtenField b 0x45 1 = 0 ∧ writtenField b 0x46 2 = s.station.adjusted.toNat ∧
    ∀ k, 0x48 ≤ k → k < 0x7C → writtenField b k 1 = 0) ∧
  (∀ i : WriteBackImage, i.bytes.length = 16 ∧
    writtenField i.bytes 0 1 = (match i.mark with | .accepted => 1 | .taken => 2 | .refused => 3) ∧
    writtenField i.bytes 1 1 = (match i.reason with
      | .none => 0 | .freqRange => 1 | .badBandwidth => 2 | .badAction => 3 | .badMode => 4 | .overlap => 5) ∧
    writtenField i.bytes 2 2 = i.appliedTag.toNat ∧ writtenField i.bytes 4 2 = i.adjusted.toNat ∧ writtenField i.bytes 6 2 = 0 ∧
    writtenField i.bytes 8 8 = i.timeAtTake.toNat) ∧
  (∀ w : StreamWriter, w.writeBackBytes.length = 48 ∧
    writtenField w.writeBackBytes 0x00 1 = (match w.phase with | .closed => 0 | .opened => 1 | .starved => 2 | .closing => 3 | .halted => 4) ∧
    writtenField w.writeBackBytes 0x01 7 = 0 ∧ writtenField w.writeBackBytes 0x08 8 = w.currentRecord.toNat ∧
    writtenField w.writeBackBytes 0x10 4 = w.counters.buffersClosed.toNat ∧ writtenField w.writeBackBytes 0x14 4 = w.counters.slotsWritten.toNat ∧
    writtenField w.writeBackBytes 0x18 4 = w.counters.droppedStarved.toNat ∧ writtenField w.writeBackBytes 0x1C 4 = w.counters.droppedFifo.toNat ∧
    writtenField w.writeBackBytes 0x20 4 = w.counters.droppedFault.toNat ∧ writtenField w.writeBackBytes 0x24 4 = w.counters.droppedClosed.toNat ∧
    writtenField w.writeBackBytes 0x28 4 = w.counters.withheld.toNat ∧ writtenField w.writeBackBytes 0x2C 4 = 0) ∧
  ∀ (c : BufferClose) (sequence : Counter), (c.fieldBytes sequence).length = 13 ∧
    (c.filled ≤ 4096 → writtenField (c.fieldBytes sequence) 0 2 = c.filled) ∧ writtenField (c.fieldBytes sequence) 2 4 = sequence.toNat ∧
    writtenField (c.fieldBytes sequence) 6 6 = (match c.stamp with | none => 0 | some x => x.toNat) ∧
    writtenField (c.fieldBytes sequence) 12 1 = (match c.reason with | .capacity => 1 | .flush => 2 | .close => 3 | .fault => 4)
end

