-- ==== Sys2Proof/Laws/State.lean ====
section
/-! SUPPORT. What each update of the state leaves alone, one lemma for each field, and what it puts: so that no later proof unfolds a record
update. Each is true by unfolding the update alone. -/

namespace Sys2Proof.Machine

/-! ### setLane -/

@[simp] theorem State.setLane_time (s : State) (n : LaneId) (l : Lane) : (s.setLane n l).time = s.time := rfl
@[simp] theorem State.setLane_station (s : State) (n : LaneId) (l : Lane) : (s.setLane n l).station = s.station := rfl
@[simp] theorem State.setLane_mastA (s : State) (n : LaneId) (l : Lane) : (s.setLane n l).mastA = s.mastA := rfl
@[simp] theorem State.setLane_mastB (s : State) (n : LaneId) (l : Lane) : (s.setLane n l).mastB = s.mastB := rfl
@[simp] theorem State.setLane_survey (s : State) (n : LaneId) (l : Lane) : (s.setLane n l).survey = s.survey := rfl
@[simp] theorem State.setLane_fetcher (s : State) (n : LaneId) (l : Lane) : (s.setLane n l).fetcher = s.fetcher := rfl
@[simp] theorem State.setLane_router (s : State) (n : LaneId) (l : Lane) : (s.setLane n l).router = s.router := rfl
@[simp] theorem State.setLane_streams (s : State) (n : LaneId) (l : Lane) : (s.setLane n l).streams = s.streams := rfl
@[simp] theorem State.setLane_arbiter (s : State) (n : LaneId) (l : Lane) : (s.setLane n l).arbiter = s.arbiter := rfl
@[simp] theorem State.setLane_link (s : State) (n : LaneId) (l : Lane) : (s.setLane n l).link = s.link := rfl
@[simp] theorem State.setLane_status (s : State) (n : LaneId) (l : Lane) : (s.setLane n l).status = s.status := rfl
@[simp] theorem State.setLane_output (s : State) (n : LaneId) (l : Lane) : (s.setLane n l).output = s.output := rfl
@[simp] theorem State.setLane_picks (s : State) (n : LaneId) (l : Lane) : (s.setLane n l).picks = s.picks := rfl
@[simp] theorem State.setLane_pending (s : State) (n : LaneId) (l : Lane) : (s.setLane n l).pending = s.pending := rfl
@[simp] theorem State.setLane_stream (s : State) (n : LaneId) (l : Lane) (m : StreamId) : (s.setLane n l).stream m = s.stream m := rfl

/-! ### modLane -/

@[simp] theorem State.modLane_time (s : State) (n : LaneId) (f : Lane → Lane) : (s.modLane n f).time = s.time := rfl
@[simp] theorem State.modLane_station (s : State) (n : LaneId) (f : Lane → Lane) : (s.modLane n f).station = s.station := rfl
@[simp] theorem State.modLane_mastA (s : State) (n : LaneId) (f : Lane → Lane) : (s.modLane n f).mastA = s.mastA := rfl
@[simp] theorem State.modLane_mastB (s : State) (n : LaneId) (f : Lane → Lane) : (s.modLane n f).mastB = s.mastB := rfl
@[simp] theorem State.modLane_survey (s : State) (n : LaneId) (f : Lane → Lane) : (s.modLane n f).survey = s.survey := rfl
@[simp] theorem State.modLane_fetcher (s : State) (n : LaneId) (f : Lane → Lane) : (s.modLane n f).fetcher = s.fetcher := rfl
@[simp] theorem State.modLane_router (s : State) (n : LaneId) (f : Lane → Lane) : (s.modLane n f).router = s.router := rfl
@[simp] theorem State.modLane_streams (s : State) (n : LaneId) (f : Lane → Lane) : (s.modLane n f).streams = s.streams := rfl
@[simp] theorem State.modLane_arbiter (s : State) (n : LaneId) (f : Lane → Lane) : (s.modLane n f).arbiter = s.arbiter := rfl
@[simp] theorem State.modLane_link (s : State) (n : LaneId) (f : Lane → Lane) : (s.modLane n f).link = s.link := rfl
@[simp] theorem State.modLane_status (s : State) (n : LaneId) (f : Lane → Lane) : (s.modLane n f).status = s.status := rfl
@[simp] theorem State.modLane_output (s : State) (n : LaneId) (f : Lane → Lane) : (s.modLane n f).output = s.output := rfl
@[simp] theorem State.modLane_picks (s : State) (n : LaneId) (f : Lane → Lane) : (s.modLane n f).picks = s.picks := rfl
@[simp] theorem State.modLane_pending (s : State) (n : LaneId) (f : Lane → Lane) : (s.modLane n f).pending = s.pending := rfl
@[simp] theorem State.modLane_stream (s : State) (n : LaneId) (f : Lane → Lane) (m : StreamId) : (s.modLane n f).stream m = s.stream m := rfl

/-! ### setStream -/

@[simp] theorem State.setStream_time (s : State) (n : StreamId) (w : StreamWriter) : (s.setStream n w).time = s.time := rfl
@[simp] theorem State.setStream_station (s : State) (n : StreamId) (w : StreamWriter) : (s.setStream n w).station = s.station := rfl
@[simp] theorem State.setStream_mastA (s : State) (n : StreamId) (w : StreamWriter) : (s.setStream n w).mastA = s.mastA := rfl
@[simp] theorem State.setStream_mastB (s : State) (n : StreamId) (w : StreamWriter) : (s.setStream n w).mastB = s.mastB := rfl
@[simp] theorem State.setStream_lanes (s : State) (n : StreamId) (w : StreamWriter) : (s.setStream n w).lanes = s.lanes := rfl
@[simp] theorem State.setStream_survey (s : State) (n : StreamId) (w : StreamWriter) : (s.setStream n w).survey = s.survey := rfl
@[simp] theorem State.setStream_fetcher (s : State) (n : StreamId) (w : StreamWriter) : (s.setStream n w).fetcher = s.fetcher := rfl
@[simp] theorem State.setStream_router (s : State) (n : StreamId) (w : StreamWriter) : (s.setStream n w).router = s.router := rfl
@[simp] theorem State.setStream_arbiter (s : State) (n : StreamId) (w : StreamWriter) : (s.setStream n w).arbiter = s.arbiter := rfl
@[simp] theorem State.setStream_link (s : State) (n : StreamId) (w : StreamWriter) : (s.setStream n w).link = s.link := rfl
@[simp] theorem State.setStream_status (s : State) (n : StreamId) (w : StreamWriter) : (s.setStream n w).status = s.status := rfl
@[simp] theorem State.setStream_output (s : State) (n : StreamId) (w : StreamWriter) : (s.setStream n w).output = s.output := rfl
@[simp] theorem State.setStream_picks (s : State) (n : StreamId) (w : StreamWriter) : (s.setStream n w).picks = s.picks := rfl
@[simp] theorem State.setStream_pending (s : State) (n : StreamId) (w : StreamWriter) : (s.setStream n w).pending = s.pending := rfl
@[simp] theorem State.setStream_lane (s : State) (n : StreamId) (w : StreamWriter) (m : LaneId) : (s.setStream n w).lane m = s.lane m := rfl

/-! ### modStream -/

@[simp] theorem State.modStream_time (s : State) (n : StreamId) (f : StreamWriter → StreamWriter) : (s.modStream n f).time = s.time := rfl
@[simp] theorem State.modStream_station (s : State) (n : StreamId) (f : StreamWriter → StreamWriter) : (s.modStream n f).station = s.station := rfl
@[simp] theorem State.modStream_mastA (s : State) (n : StreamId) (f : StreamWriter → StreamWriter) : (s.modStream n f).mastA = s.mastA := rfl
@[simp] theorem State.modStream_mastB (s : State) (n : StreamId) (f : StreamWriter → StreamWriter) : (s.modStream n f).mastB = s.mastB := rfl
@[simp] theorem State.modStream_lanes (s : State) (n : StreamId) (f : StreamWriter → StreamWriter) : (s.modStream n f).lanes = s.lanes := rfl
@[simp] theorem State.modStream_survey (s : State) (n : StreamId) (f : StreamWriter → StreamWriter) : (s.modStream n f).survey = s.survey := rfl
@[simp] theorem State.modStream_fetcher (s : State) (n : StreamId) (f : StreamWriter → StreamWriter) : (s.modStream n f).fetcher = s.fetcher := rfl
@[simp] theorem State.modStream_router (s : State) (n : StreamId) (f : StreamWriter → StreamWriter) : (s.modStream n f).router = s.router := rfl
@[simp] theorem State.modStream_arbiter (s : State) (n : StreamId) (f : StreamWriter → StreamWriter) : (s.modStream n f).arbiter = s.arbiter := rfl
@[simp] theorem State.modStream_link (s : State) (n : StreamId) (f : StreamWriter → StreamWriter) : (s.modStream n f).link = s.link := rfl
@[simp] theorem State.modStream_status (s : State) (n : StreamId) (f : StreamWriter → StreamWriter) : (s.modStream n f).status = s.status := rfl
@[simp] theorem State.modStream_output (s : State) (n : StreamId) (f : StreamWriter → StreamWriter) : (s.modStream n f).output = s.output := rfl
@[simp] theorem State.modStream_picks (s : State) (n : StreamId) (f : StreamWriter → StreamWriter) : (s.modStream n f).picks = s.picks := rfl
@[simp] theorem State.modStream_pending (s : State) (n : StreamId) (f : StreamWriter → StreamWriter) : (s.modStream n f).pending = s.pending := rfl
@[simp] theorem State.modStream_lane (s : State) (n : StreamId) (f : StreamWriter → StreamWriter) (m : LaneId) : (s.modStream n f).lane m = s.lane m := rfl

/-! ### setAnswer -/

@[simp] theorem State.setAnswer_time (s : State) (n : LaneId) (a : SlotAnswer) : (s.setAnswer n a).time = s.time := rfl
@[simp] theorem State.setAnswer_station (s : State) (n : LaneId) (a : SlotAnswer) : (s.setAnswer n a).station = s.station := rfl
@[simp] theorem State.setAnswer_mastA (s : State) (n : LaneId) (a : SlotAnswer) : (s.setAnswer n a).mastA = s.mastA := rfl
@[simp] theorem State.setAnswer_mastB (s : State) (n : LaneId) (a : SlotAnswer) : (s.setAnswer n a).mastB = s.mastB := rfl
@[simp] theorem State.setAnswer_lanes (s : State) (n : LaneId) (a : SlotAnswer) : (s.setAnswer n a).lanes = s.lanes := rfl
@[simp] theorem State.setAnswer_survey (s : State) (n : LaneId) (a : SlotAnswer) : (s.setAnswer n a).survey = s.survey := rfl
@[simp] theorem State.setAnswer_router (s : State) (n : LaneId) (a : SlotAnswer) : (s.setAnswer n a).router = s.router := rfl
@[simp] theorem State.setAnswer_streams (s : State) (n : LaneId) (a : SlotAnswer) : (s.setAnswer n a).streams = s.streams := rfl
@[simp] theorem State.setAnswer_arbiter (s : State) (n : LaneId) (a : SlotAnswer) : (s.setAnswer n a).arbiter = s.arbiter := rfl
@[simp] theorem State.setAnswer_link (s : State) (n : LaneId) (a : SlotAnswer) : (s.setAnswer n a).link = s.link := rfl
@[simp] theorem State.setAnswer_status (s : State) (n : LaneId) (a : SlotAnswer) : (s.setAnswer n a).status = s.status := rfl
@[simp] theorem State.setAnswer_output (s : State) (n : LaneId) (a : SlotAnswer) : (s.setAnswer n a).output = s.output := rfl
@[simp] theorem State.setAnswer_picks (s : State) (n : LaneId) (a : SlotAnswer) : (s.setAnswer n a).picks = s.picks := rfl
@[simp] theorem State.setAnswer_pending (s : State) (n : LaneId) (a : SlotAnswer) : (s.setAnswer n a).pending = s.pending := rfl
@[simp] theorem State.setAnswer_lane (s : State) (n : LaneId) (a : SlotAnswer) (m : LaneId) : (s.setAnswer n a).lane m = s.lane m := rfl
@[simp] theorem State.setAnswer_stream (s : State) (n : LaneId) (a : SlotAnswer) (m : StreamId) : (s.setAnswer n a).stream m = s.stream m := rfl

/-! ### setNotices -/

@[simp] theorem State.setNotices_time (s : State) (notice enable : BitVec 7) : (s.setNotices notice enable).time = s.time := rfl
@[simp] theorem State.setNotices_station (s : State) (notice enable : BitVec 7) : (s.setNotices notice enable).station = s.station := rfl
@[simp] theorem State.setNotices_mastA (s : State) (notice enable : BitVec 7) : (s.setNotices notice enable).mastA = s.mastA := rfl
@[simp] theorem State.setNotices_mastB (s : State) (notice enable : BitVec 7) : (s.setNotices notice enable).mastB = s.mastB := rfl
@[simp] theorem State.setNotices_lanes (s : State) (notice enable : BitVec 7) : (s.setNotices notice enable).lanes = s.lanes := rfl
@[simp] theorem State.setNotices_survey (s : State) (notice enable : BitVec 7) : (s.setNotices notice enable).survey = s.survey := rfl
@[simp] theorem State.setNotices_fetcher (s : State) (notice enable : BitVec 7) : (s.setNotices notice enable).fetcher = s.fetcher := rfl
@[simp] theorem State.setNotices_router (s : State) (notice enable : BitVec 7) : (s.setNotices notice enable).router = s.router := rfl
@[simp] theorem State.setNotices_streams (s : State) (notice enable : BitVec 7) : (s.setNotices notice enable).streams = s.streams := rfl
@[simp] theorem State.setNotices_arbiter (s : State) (notice enable : BitVec 7) : (s.setNotices notice enable).arbiter = s.arbiter := rfl
@[simp] theorem State.setNotices_status (s : State) (notice enable : BitVec 7) : (s.setNotices notice enable).status = s.status := rfl
@[simp] theorem State.setNotices_picks (s : State) (notice enable : BitVec 7) : (s.setNotices notice enable).picks = s.picks := rfl
@[simp] theorem State.setNotices_pending (s : State) (notice enable : BitVec 7) : (s.setNotices notice enable).pending = s.pending := rfl
@[simp] theorem State.setNotices_lane (s : State) (notice enable : BitVec 7) (m : LaneId) : (s.setNotices notice enable).lane m = s.lane m := rfl
@[simp] theorem State.setNotices_stream (s : State) (notice enable : BitVec 7) (m : StreamId) : (s.setNotices notice enable).stream m = s.stream m := rfl

/-! ### raise -/

@[simp] theorem State.raise_time (s : State) (c : Cause) : (s.raise c).time = s.time := rfl
@[simp] theorem State.raise_station (s : State) (c : Cause) : (s.raise c).station = s.station := rfl
@[simp] theorem State.raise_mastA (s : State) (c : Cause) : (s.raise c).mastA = s.mastA := rfl
@[simp] theorem State.raise_mastB (s : State) (c : Cause) : (s.raise c).mastB = s.mastB := rfl
@[simp] theorem State.raise_lanes (s : State) (c : Cause) : (s.raise c).lanes = s.lanes := rfl
@[simp] theorem State.raise_survey (s : State) (c : Cause) : (s.raise c).survey = s.survey := rfl
@[simp] theorem State.raise_fetcher (s : State) (c : Cause) : (s.raise c).fetcher = s.fetcher := rfl
@[simp] theorem State.raise_router (s : State) (c : Cause) : (s.raise c).router = s.router := rfl
@[simp] theorem State.raise_streams (s : State) (c : Cause) : (s.raise c).streams = s.streams := rfl
@[simp] theorem State.raise_arbiter (s : State) (c : Cause) : (s.raise c).arbiter = s.arbiter := rfl
@[simp] theorem State.raise_status (s : State) (c : Cause) : (s.raise c).status = s.status := rfl
@[simp] theorem State.raise_picks (s : State) (c : Cause) : (s.raise c).picks = s.picks := rfl
@[simp] theorem State.raise_pending (s : State) (c : Cause) : (s.raise c).pending = s.pending := rfl
@[simp] theorem State.raise_lane (s : State) (c : Cause) (m : LaneId) : (s.raise c).lane m = s.lane m := rfl
@[simp] theorem State.raise_stream (s : State) (c : Cause) (m : StreamId) : (s.raise c).stream m = s.stream m := rfl

/-! ### raiseIf -/

@[simp] theorem State.raiseIf_time (s : State) (b : Bool) (c : Cause) : (s.raiseIf b c).time = s.time := by
  cases b <;> rfl
@[simp] theorem State.raiseIf_station (s : State) (b : Bool) (c : Cause) : (s.raiseIf b c).station = s.station := by
  cases b <;> rfl
@[simp] theorem State.raiseIf_mastA (s : State) (b : Bool) (c : Cause) : (s.raiseIf b c).mastA = s.mastA := by
  cases b <;> rfl
@[simp] theorem State.raiseIf_mastB (s : State) (b : Bool) (c : Cause) : (s.raiseIf b c).mastB = s.mastB := by
  cases b <;> rfl
@[simp] theorem State.raiseIf_lanes (s : State) (b : Bool) (c : Cause) : (s.raiseIf b c).lanes = s.lanes := by
  cases b <;> rfl
@[simp] theorem State.raiseIf_survey (s : State) (b : Bool) (c : Cause) : (s.raiseIf b c).survey = s.survey := by
  cases b <;> rfl
@[simp] theorem State.raiseIf_fetcher (s : State) (b : Bool) (c : Cause) : (s.raiseIf b c).fetcher = s.fetcher := by
  cases b <;> rfl
@[simp] theorem State.raiseIf_router (s : State) (b : Bool) (c : Cause) : (s.raiseIf b c).router = s.router := by
  cases b <;> rfl
@[simp] theorem State.raiseIf_streams (s : State) (b : Bool) (c : Cause) : (s.raiseIf b c).streams = s.streams := by
  cases b <;> rfl
@[simp] theorem State.raiseIf_arbiter (s : State) (b : Bool) (c : Cause) : (s.raiseIf b c).arbiter = s.arbiter := by
  cases b <;> rfl
@[simp] theorem State.raiseIf_status (s : State) (b : Bool) (c : Cause) : (s.raiseIf b c).status = s.status := by
  cases b <;> rfl
@[simp] theorem State.raiseIf_picks (s : State) (b : Bool) (c : Cause) : (s.raiseIf b c).picks = s.picks := by
  cases b <;> rfl
@[simp] theorem State.raiseIf_pending (s : State) (b : Bool) (c : Cause) : (s.raiseIf b c).pending = s.pending := by
  cases b <;> rfl
@[simp] theorem State.raiseIf_lane (s : State) (b : Bool) (c : Cause) (m : LaneId) : (s.raiseIf b c).lane m = s.lane m := by
  cases b <;> rfl
@[simp] theorem State.raiseIf_stream (s : State) (b : Bool) (c : Cause) (m : StreamId) : (s.raiseIf b c).stream m = s.stream m := by
  cases b <;> rfl

/-! ### linkError -/

@[simp] theorem State.linkError_time (s : State) (kind : FaultKind) (who : FaultRequester) (a : Addr) : (s.linkError kind who a).time = s.time := rfl
@[simp] theorem State.linkError_station (s : State) (kind : FaultKind) (who : FaultRequester) (a : Addr) : (s.linkError kind who a).station = s.station := rfl
@[simp] theorem State.linkError_mastA (s : State) (kind : FaultKind) (who : FaultRequester) (a : Addr) : (s.linkError kind who a).mastA = s.mastA := rfl
@[simp] theorem State.linkError_mastB (s : State) (kind : FaultKind) (who : FaultRequester) (a : Addr) : (s.linkError kind who a).mastB = s.mastB := rfl
@[simp] theorem State.linkError_lanes (s : State) (kind : FaultKind) (who : FaultRequester) (a : Addr) : (s.linkError kind who a).lanes = s.lanes := rfl
@[simp] theorem State.linkError_survey (s : State) (kind : FaultKind) (who : FaultRequester) (a : Addr) : (s.linkError kind who a).survey = s.survey := rfl
@[simp] theorem State.linkError_fetcher (s : State) (kind : FaultKind) (who : FaultRequester) (a : Addr) : (s.linkError kind who a).fetcher = s.fetcher := rfl
@[simp] theorem State.linkError_router (s : State) (kind : FaultKind) (who : FaultRequester) (a : Addr) : (s.linkError kind who a).router = s.router := rfl
@[simp] theorem State.linkError_streams (s : State) (kind : FaultKind) (who : FaultRequester) (a : Addr) : (s.linkError kind who a).streams = s.streams := rfl
@[simp] theorem State.linkError_arbiter (s : State) (kind : FaultKind) (who : FaultRequester) (a : Addr) : (s.linkError kind who a).arbiter = s.arbiter := rfl
@[simp] theorem State.linkError_status (s : State) (kind : FaultKind) (who : FaultRequester) (a : Addr) : (s.linkError kind who a).status = s.status := rfl
@[simp] theorem State.linkError_picks (s : State) (kind : FaultKind) (who : FaultRequester) (a : Addr) : (s.linkError kind who a).picks = s.picks := rfl
@[simp] theorem State.linkError_pending (s : State) (kind : FaultKind) (who : FaultRequester) (a : Addr) : (s.linkError kind who a).pending = s.pending := rfl
@[simp] theorem State.linkError_lane (s : State) (kind : FaultKind) (who : FaultRequester) (a : Addr) (m : LaneId) : (s.linkError kind who a).lane m = s.lane m := rfl
@[simp] theorem State.linkError_stream (s : State) (kind : FaultKind) (who : FaultRequester) (a : Addr) (m : StreamId) : (s.linkError kind who a).stream m = s.stream m := rfl

/-! ### freePort -/

@[simp] theorem State.freePort_time (s : State) : s.freePort.time = s.time := rfl
@[simp] theorem State.freePort_station (s : State) : s.freePort.station = s.station := rfl
@[simp] theorem State.freePort_mastA (s : State) : s.freePort.mastA = s.mastA := rfl
@[simp] theorem State.freePort_mastB (s : State) : s.freePort.mastB = s.mastB := rfl
@[simp] theorem State.freePort_lanes (s : State) : s.freePort.lanes = s.lanes := rfl
@[simp] theorem State.freePort_survey (s : State) : s.freePort.survey = s.survey := rfl
@[simp] theorem State.freePort_fetcher (s : State) : s.freePort.fetcher = s.fetcher := rfl
@[simp] theorem State.freePort_router (s : State) : s.freePort.router = s.router := rfl
@[simp] theorem State.freePort_streams (s : State) : s.freePort.streams = s.streams := rfl
@[simp] theorem State.freePort_link (s : State) : s.freePort.link = s.link := rfl
@[simp] theorem State.freePort_status (s : State) : s.freePort.status = s.status := rfl
@[simp] theorem State.freePort_output (s : State) : s.freePort.output = s.output := rfl
@[simp] theorem State.freePort_picks (s : State) : s.freePort.picks = s.picks := rfl
@[simp] theorem State.freePort_pending (s : State) : s.freePort.pending = s.pending := rfl
@[simp] theorem State.freePort_lane (s : State) (m : LaneId) : s.freePort.lane m = s.lane m := rfl
@[simp] theorem State.freePort_stream (s : State) (m : StreamId) : s.freePort.stream m = s.stream m := rfl

/-! ### accept -/

@[simp] theorem State.accept_time (s : State) (t : Transfer) : (s.accept t).time = s.time := rfl
@[simp] theorem State.accept_station (s : State) (t : Transfer) : (s.accept t).station = s.station := rfl
@[simp] theorem State.accept_mastA (s : State) (t : Transfer) : (s.accept t).mastA = s.mastA := rfl
@[simp] theorem State.accept_mastB (s : State) (t : Transfer) : (s.accept t).mastB = s.mastB := rfl
@[simp] theorem State.accept_lanes (s : State) (t : Transfer) : (s.accept t).lanes = s.lanes := rfl
@[simp] theorem State.accept_survey (s : State) (t : Transfer) : (s.accept t).survey = s.survey := rfl
@[simp] theorem State.accept_fetcher (s : State) (t : Transfer) : (s.accept t).fetcher = s.fetcher := rfl
@[simp] theorem State.accept_router (s : State) (t : Transfer) : (s.accept t).router = s.router := rfl
@[simp] theorem State.accept_streams (s : State) (t : Transfer) : (s.accept t).streams = s.streams := rfl
@[simp] theorem State.accept_arbiter (s : State) (t : Transfer) : (s.accept t).arbiter = s.arbiter := rfl
@[simp] theorem State.accept_link (s : State) (t : Transfer) : (s.accept t).link = s.link := rfl
@[simp] theorem State.accept_status (s : State) (t : Transfer) : (s.accept t).status = s.status := rfl
@[simp] theorem State.accept_picks (s : State) (t : Transfer) : (s.accept t).picks = s.picks := rfl
@[simp] theorem State.accept_pending (s : State) (t : Transfer) : (s.accept t).pending = s.pending := rfl
@[simp] theorem State.accept_lane (s : State) (t : Transfer) (m : LaneId) : (s.accept t).lane m = s.lane m := rfl
@[simp] theorem State.accept_stream (s : State) (t : Transfer) (m : StreamId) : (s.accept t).stream m = s.stream m := rfl

/-! ### oweLane -/

@[simp] theorem State.oweLane_time (s : State) (n : LaneId) : (s.oweLane n).time = s.time := rfl
@[simp] theorem State.oweLane_station (s : State) (n : LaneId) : (s.oweLane n).station = s.station := rfl
@[simp] theorem State.oweLane_mastA (s : State) (n : LaneId) : (s.oweLane n).mastA = s.mastA := rfl
@[simp] theorem State.oweLane_mastB (s : State) (n : LaneId) : (s.oweLane n).mastB = s.mastB := rfl
@[simp] theorem State.oweLane_lanes (s : State) (n : LaneId) : (s.oweLane n).lanes = s.lanes := rfl
@[simp] theorem State.oweLane_survey (s : State) (n : LaneId) : (s.oweLane n).survey = s.survey := rfl
@[simp] theorem State.oweLane_fetcher (s : State) (n : LaneId) : (s.oweLane n).fetcher = s.fetcher := rfl
@[simp] theorem State.oweLane_router (s : State) (n : LaneId) : (s.oweLane n).router = s.router := rfl
@[simp] theorem State.oweLane_streams (s : State) (n : LaneId) : (s.oweLane n).streams = s.streams := rfl
@[simp] theorem State.oweLane_arbiter (s : State) (n : LaneId) : (s.oweLane n).arbiter = s.arbiter := rfl
@[simp] theorem State.oweLane_link (s : State) (n : LaneId) : (s.oweLane n).link = s.link := rfl
@[simp] theorem State.oweLane_output (s : State) (n : LaneId) : (s.oweLane n).output = s.output := rfl
@[simp] theorem State.oweLane_picks (s : State) (n : LaneId) : (s.oweLane n).picks = s.picks := rfl
@[simp] theorem State.oweLane_pending (s : State) (n : LaneId) : (s.oweLane n).pending = s.pending := rfl
@[simp] theorem State.oweLane_lane (s : State) (n : LaneId) (m : LaneId) : (s.oweLane n).lane m = s.lane m := rfl
@[simp] theorem State.oweLane_stream (s : State) (n : LaneId) (m : StreamId) : (s.oweLane n).stream m = s.stream m := rfl

/-! ### oweStation -/

@[simp] theorem State.oweStation_time (s : State) : s.oweStation.time = s.time := rfl
@[simp] theorem State.oweStation_station (s : State) : s.oweStation.station = s.station := rfl
@[simp] theorem State.oweStation_mastA (s : State) : s.oweStation.mastA = s.mastA := rfl
@[simp] theorem State.oweStation_mastB (s : State) : s.oweStation.mastB = s.mastB := rfl
@[simp] theorem State.oweStation_lanes (s : State) : s.oweStation.lanes = s.lanes := rfl
@[simp] theorem State.oweStation_survey (s : State) : s.oweStation.survey = s.survey := rfl
@[simp] theorem State.oweStation_fetcher (s : State) : s.oweStation.fetcher = s.fetcher := rfl
@[simp] theorem State.oweStation_router (s : State) : s.oweStation.router = s.router := rfl
@[simp] theorem State.oweStation_streams (s : State) : s.oweStation.streams = s.streams := rfl
@[simp] theorem State.oweStation_arbiter (s : State) : s.oweStation.arbiter = s.arbiter := rfl
@[simp] theorem State.oweStation_link (s : State) : s.oweStation.link = s.link := rfl
@[simp] theorem State.oweStation_output (s : State) : s.oweStation.output = s.output := rfl
@[simp] theorem State.oweStation_picks (s : State) : s.oweStation.picks = s.picks := rfl
@[simp] theorem State.oweStation_pending (s : State) : s.oweStation.pending = s.pending := rfl
@[simp] theorem State.oweStation_lane (s : State) (m : LaneId) : s.oweStation.lane m = s.lane m := rfl
@[simp] theorem State.oweStation_stream (s : State) (m : StreamId) : s.oweStation.stream m = s.stream m := rfl

/-! ### oweAll -/

@[simp] theorem State.oweAll_time (s : State) : s.oweAll.time = s.time := rfl
@[simp] theorem State.oweAll_station (s : State) : s.oweAll.station = s.station := rfl
@[simp] theorem State.oweAll_mastA (s : State) : s.oweAll.mastA = s.mastA := rfl
@[simp] theorem State.oweAll_mastB (s : State) : s.oweAll.mastB = s.mastB := rfl
@[simp] theorem State.oweAll_lanes (s : State) : s.oweAll.lanes = s.lanes := rfl
@[simp] theorem State.oweAll_survey (s : State) : s.oweAll.survey = s.survey := rfl
@[simp] theorem State.oweAll_fetcher (s : State) : s.oweAll.fetcher = s.fetcher := rfl
@[simp] theorem State.oweAll_router (s : State) : s.oweAll.router = s.router := rfl
@[simp] theorem State.oweAll_streams (s : State) : s.oweAll.streams = s.streams := rfl
@[simp] theorem State.oweAll_arbiter (s : State) : s.oweAll.arbiter = s.arbiter := rfl
@[simp] theorem State.oweAll_link (s : State) : s.oweAll.link = s.link := rfl
@[simp] theorem State.oweAll_output (s : State) : s.oweAll.output = s.output := rfl
@[simp] theorem State.oweAll_picks (s : State) : s.oweAll.picks = s.picks := rfl
@[simp] theorem State.oweAll_pending (s : State) : s.oweAll.pending = s.pending := rfl
@[simp] theorem State.oweAll_lane (s : State) (m : LaneId) : s.oweAll.lane m = s.lane m := rfl
@[simp] theorem State.oweAll_stream (s : State) (m : StreamId) : s.oweAll.stream m = s.stream m := rfl

/-! ### issue -/

@[simp] theorem State.issue_time (s : State) (t : Transfer) : (s.issue t).time = s.time := rfl
@[simp] theorem State.issue_station (s : State) (t : Transfer) : (s.issue t).station = s.station := rfl
@[simp] theorem State.issue_mastA (s : State) (t : Transfer) : (s.issue t).mastA = s.mastA := rfl
@[simp] theorem State.issue_mastB (s : State) (t : Transfer) : (s.issue t).mastB = s.mastB := rfl
@[simp] theorem State.issue_lanes (s : State) (t : Transfer) : (s.issue t).lanes = s.lanes := rfl
@[simp] theorem State.issue_survey (s : State) (t : Transfer) : (s.issue t).survey = s.survey := rfl
@[simp] theorem State.issue_fetcher (s : State) (t : Transfer) : (s.issue t).fetcher = s.fetcher := rfl
@[simp] theorem State.issue_router (s : State) (t : Transfer) : (s.issue t).router = s.router := rfl
@[simp] theorem State.issue_streams (s : State) (t : Transfer) : (s.issue t).streams = s.streams := rfl
@[simp] theorem State.issue_link (s : State) (t : Transfer) : (s.issue t).link = s.link := rfl
@[simp] theorem State.issue_status (s : State) (t : Transfer) : (s.issue t).status = s.status := rfl
@[simp] theorem State.issue_output (s : State) (t : Transfer) : (s.issue t).output = s.output := rfl
@[simp] theorem State.issue_picks (s : State) (t : Transfer) : (s.issue t).picks = s.picks := rfl
@[simp] theorem State.issue_pending (s : State) (t : Transfer) : (s.issue t).pending = s.pending := rfl
@[simp] theorem State.issue_lane (s : State) (t : Transfer) (m : LaneId) : (s.issue t).lane m = s.lane m := rfl
@[simp] theorem State.issue_stream (s : State) (t : Transfer) (m : StreamId) : (s.issue t).stream m = s.stream m := rfl

/-! ### setQueue -/

@[simp] theorem State.setQueue_time (s : State) (queue : List Requester) : (s.setQueue queue).time = s.time := rfl
@[simp] theorem State.setQueue_station (s : State) (queue : List Requester) : (s.setQueue queue).station = s.station := rfl
@[simp] theorem State.setQueue_mastA (s : State) (queue : List Requester) : (s.setQueue queue).mastA = s.mastA := rfl
@[simp] theorem State.setQueue_mastB (s : State) (queue : List Requester) : (s.setQueue queue).mastB = s.mastB := rfl
@[simp] theorem State.setQueue_lanes (s : State) (queue : List Requester) : (s.setQueue queue).lanes = s.lanes := rfl
@[simp] theorem State.setQueue_survey (s : State) (queue : List Requester) : (s.setQueue queue).survey = s.survey := rfl
@[simp] theorem State.setQueue_fetcher (s : State) (queue : List Requester) : (s.setQueue queue).fetcher = s.fetcher := rfl
@[simp] theorem State.setQueue_router (s : State) (queue : List Requester) : (s.setQueue queue).router = s.router := rfl
@[simp] theorem State.setQueue_streams (s : State) (queue : List Requester) : (s.setQueue queue).streams = s.streams := rfl
@[simp] theorem State.setQueue_link (s : State) (queue : List Requester) : (s.setQueue queue).link = s.link := rfl
@[simp] theorem State.setQueue_status (s : State) (queue : List Requester) : (s.setQueue queue).status = s.status := rfl
@[simp] theorem State.setQueue_output (s : State) (queue : List Requester) : (s.setQueue queue).output = s.output := rfl
@[simp] theorem State.setQueue_picks (s : State) (queue : List Requester) : (s.setQueue queue).picks = s.picks := rfl
@[simp] theorem State.setQueue_pending (s : State) (queue : List Requester) : (s.setQueue queue).pending = s.pending := rfl
@[simp] theorem State.setQueue_lane (s : State) (queue : List Requester) (m : LaneId) : (s.setQueue queue).lane m = s.lane m := rfl
@[simp] theorem State.setQueue_stream (s : State) (queue : List Requester) (m : StreamId) : (s.setQueue queue).stream m = s.stream m := rfl

/-! ### endRace -/

@[simp] theorem State.endRace_time (s : State) : s.endRace.time = s.time := rfl
@[simp] theorem State.endRace_station (s : State) : s.endRace.station = s.station := rfl
@[simp] theorem State.endRace_mastA (s : State) : s.endRace.mastA = s.mastA := rfl
@[simp] theorem State.endRace_mastB (s : State) : s.endRace.mastB = s.mastB := rfl
@[simp] theorem State.endRace_lanes (s : State) : s.endRace.lanes = s.lanes := rfl
@[simp] theorem State.endRace_survey (s : State) : s.endRace.survey = s.survey := rfl
@[simp] theorem State.endRace_fetcher (s : State) : s.endRace.fetcher = s.fetcher := rfl
@[simp] theorem State.endRace_router (s : State) : s.endRace.router = s.router := rfl
@[simp] theorem State.endRace_streams (s : State) : s.endRace.streams = s.streams := rfl
@[simp] theorem State.endRace_link (s : State) : s.endRace.link = s.link := rfl
@[simp] theorem State.endRace_status (s : State) : s.endRace.status = s.status := rfl
@[simp] theorem State.endRace_output (s : State) : s.endRace.output = s.output := rfl
@[simp] theorem State.endRace_pending (s : State) : s.endRace.pending = s.pending := rfl
@[simp] theorem State.endRace_lane (s : State) (m : LaneId) : s.endRace.lane m = s.lane m := rfl
@[simp] theorem State.endRace_stream (s : State) (m : StreamId) : s.endRace.stream m = s.stream m := rfl

/-! ### setDevice -/

@[simp] theorem State.setDevice_time (s : State) (d : DeviceState) : (s.setDevice d).time = s.time := rfl
@[simp] theorem State.setDevice_station (s : State) (d : DeviceState) : (s.setDevice d).station = s.station := rfl
@[simp] theorem State.setDevice_mastA (s : State) (d : DeviceState) : (s.setDevice d).mastA = s.mastA := rfl
@[simp] theorem State.setDevice_mastB (s : State) (d : DeviceState) : (s.setDevice d).mastB = s.mastB := rfl
@[simp] theorem State.setDevice_lanes (s : State) (d : DeviceState) : (s.setDevice d).lanes = s.lanes := rfl
@[simp] theorem State.setDevice_survey (s : State) (d : DeviceState) : (s.setDevice d).survey = s.survey := rfl
@[simp] theorem State.setDevice_fetcher (s : State) (d : DeviceState) : (s.setDevice d).fetcher = s.fetcher := rfl
@[simp] theorem State.setDevice_router (s : State) (d : DeviceState) : (s.setDevice d).router = s.router := rfl
@[simp] theorem State.setDevice_streams (s : State) (d : DeviceState) : (s.setDevice d).streams = s.streams := rfl
@[simp] theorem State.setDevice_arbiter (s : State) (d : DeviceState) : (s.setDevice d).arbiter = s.arbiter := rfl
@[simp] theorem State.setDevice_status (s : State) (d : DeviceState) : (s.setDevice d).status = s.status := rfl
@[simp] theorem State.setDevice_output (s : State) (d : DeviceState) : (s.setDevice d).output = s.output := rfl
@[simp] theorem State.setDevice_picks (s : State) (d : DeviceState) : (s.setDevice d).picks = s.picks := rfl
@[simp] theorem State.setDevice_pending (s : State) (d : DeviceState) : (s.setDevice d).pending = s.pending := rfl
@[simp] theorem State.setDevice_lane (s : State) (d : DeviceState) (m : LaneId) : (s.setDevice d).lane m = s.lane m := rfl
@[simp] theorem State.setDevice_stream (s : State) (d : DeviceState) (m : StreamId) : (s.setDevice d).stream m = s.stream m := rfl

/-! ### setRun -/

@[simp] theorem State.setRun_time (s : State) (run : Bool) : (s.setRun run).time = s.time := rfl
@[simp] theorem State.setRun_station (s : State) (run : Bool) : (s.setRun run).station = s.station := rfl
@[simp] theorem State.setRun_mastA (s : State) (run : Bool) : (s.setRun run).mastA = s.mastA := rfl
@[simp] theorem State.setRun_mastB (s : State) (run : Bool) : (s.setRun run).mastB = s.mastB := rfl
@[simp] theorem State.setRun_lanes (s : State) (run : Bool) : (s.setRun run).lanes = s.lanes := rfl
@[simp] theorem State.setRun_survey (s : State) (run : Bool) : (s.setRun run).survey = s.survey := rfl
@[simp] theorem State.setRun_fetcher (s : State) (run : Bool) : (s.setRun run).fetcher = s.fetcher := rfl
@[simp] theorem State.setRun_router (s : State) (run : Bool) : (s.setRun run).router = s.router := rfl
@[simp] theorem State.setRun_streams (s : State) (run : Bool) : (s.setRun run).streams = s.streams := rfl
@[simp] theorem State.setRun_arbiter (s : State) (run : Bool) : (s.setRun run).arbiter = s.arbiter := rfl
@[simp] theorem State.setRun_status (s : State) (run : Bool) : (s.setRun run).status = s.status := rfl
@[simp] theorem State.setRun_output (s : State) (run : Bool) : (s.setRun run).output = s.output := rfl
@[simp] theorem State.setRun_picks (s : State) (run : Bool) : (s.setRun run).picks = s.picks := rfl
@[simp] theorem State.setRun_pending (s : State) (run : Bool) : (s.setRun run).pending = s.pending := rfl
@[simp] theorem State.setRun_lane (s : State) (run : Bool) (m : LaneId) : (s.setRun run).lane m = s.lane m := rfl
@[simp] theorem State.setRun_stream (s : State) (run : Bool) (m : StreamId) : (s.setRun run).stream m = s.stream m := rfl

/-! ### setBase -/

@[simp] theorem State.setBase_time (s : State) (base : Addr) : (s.setBase base).time = s.time := rfl
@[simp] theorem State.setBase_station (s : State) (base : Addr) : (s.setBase base).station = s.station := rfl
@[simp] theorem State.setBase_mastA (s : State) (base : Addr) : (s.setBase base).mastA = s.mastA := rfl
@[simp] theorem State.setBase_mastB (s : State) (base : Addr) : (s.setBase base).mastB = s.mastB := rfl
@[simp] theorem State.setBase_lanes (s : State) (base : Addr) : (s.setBase base).lanes = s.lanes := rfl
@[simp] theorem State.setBase_survey (s : State) (base : Addr) : (s.setBase base).survey = s.survey := rfl
@[simp] theorem State.setBase_fetcher (s : State) (base : Addr) : (s.setBase base).fetcher = s.fetcher := rfl
@[simp] theorem State.setBase_router (s : State) (base : Addr) : (s.setBase base).router = s.router := rfl
@[simp] theorem State.setBase_streams (s : State) (base : Addr) : (s.setBase base).streams = s.streams := rfl
@[simp] theorem State.setBase_arbiter (s : State) (base : Addr) : (s.setBase base).arbiter = s.arbiter := rfl
@[simp] theorem State.setBase_status (s : State) (base : Addr) : (s.setBase base).status = s.status := rfl
@[simp] theorem State.setBase_output (s : State) (base : Addr) : (s.setBase base).output = s.output := rfl
@[simp] theorem State.setBase_picks (s : State) (base : Addr) : (s.setBase base).picks = s.picks := rfl
@[simp] theorem State.setBase_pending (s : State) (base : Addr) : (s.setBase base).pending = s.pending := rfl
@[simp] theorem State.setBase_lane (s : State) (base : Addr) (m : LaneId) : (s.setBase base).lane m = s.lane m := rfl
@[simp] theorem State.setBase_stream (s : State) (base : Addr) (m : StreamId) : (s.setBase base).stream m = s.stream m := rfl

/-! ### setShadow -/

@[simp] theorem State.setShadow_time (s : State) (shadow : Shadow) : (s.setShadow shadow).time = s.time := rfl
@[simp] theorem State.setShadow_station (s : State) (shadow : Shadow) : (s.setShadow shadow).station = s.station := rfl
@[simp] theorem State.setShadow_mastA (s : State) (shadow : Shadow) : (s.setShadow shadow).mastA = s.mastA := rfl
@[simp] theorem State.setShadow_mastB (s : State) (shadow : Shadow) : (s.setShadow shadow).mastB = s.mastB := rfl
@[simp] theorem State.setShadow_lanes (s : State) (shadow : Shadow) : (s.setShadow shadow).lanes = s.lanes := rfl
@[simp] theorem State.setShadow_survey (s : State) (shadow : Shadow) : (s.setShadow shadow).survey = s.survey := rfl
@[simp] theorem State.setShadow_fetcher (s : State) (shadow : Shadow) : (s.setShadow shadow).fetcher = s.fetcher := rfl
@[simp] theorem State.setShadow_streams (s : State) (shadow : Shadow) : (s.setShadow shadow).streams = s.streams := rfl
@[simp] theorem State.setShadow_arbiter (s : State) (shadow : Shadow) : (s.setShadow shadow).arbiter = s.arbiter := rfl
@[simp] theorem State.setShadow_link (s : State) (shadow : Shadow) : (s.setShadow shadow).link = s.link := rfl
@[simp] theorem State.setShadow_status (s : State) (shadow : Shadow) : (s.setShadow shadow).status = s.status := rfl
@[simp] theorem State.setShadow_output (s : State) (shadow : Shadow) : (s.setShadow shadow).output = s.output := rfl
@[simp] theorem State.setShadow_picks (s : State) (shadow : Shadow) : (s.setShadow shadow).picks = s.picks := rfl
@[simp] theorem State.setShadow_pending (s : State) (shadow : Shadow) : (s.setShadow shadow).pending = s.pending := rfl
@[simp] theorem State.setShadow_lane (s : State) (shadow : Shadow) (m : LaneId) : (s.setShadow shadow).lane m = s.lane m := rfl
@[simp] theorem State.setShadow_stream (s : State) (shadow : Shadow) (m : StreamId) : (s.setShadow shadow).stream m = s.stream m := rfl

/-! ### takeHead -/

@[simp] theorem State.takeHead_time (s : State) (p : Packet) (rest : List Packet) : (s.takeHead p rest).time = s.time := rfl
@[simp] theorem State.takeHead_station (s : State) (p : Packet) (rest : List Packet) : (s.takeHead p rest).station = s.station := rfl
@[simp] theorem State.takeHead_mastA (s : State) (p : Packet) (rest : List Packet) : (s.takeHead p rest).mastA = s.mastA := rfl
@[simp] theorem State.takeHead_mastB (s : State) (p : Packet) (rest : List Packet) : (s.takeHead p rest).mastB = s.mastB := rfl
@[simp] theorem State.takeHead_lanes (s : State) (p : Packet) (rest : List Packet) : (s.takeHead p rest).lanes = s.lanes := rfl
@[simp] theorem State.takeHead_survey (s : State) (p : Packet) (rest : List Packet) : (s.takeHead p rest).survey = s.survey := rfl
@[simp] theorem State.takeHead_fetcher (s : State) (p : Packet) (rest : List Packet) : (s.takeHead p rest).fetcher = s.fetcher := rfl
@[simp] theorem State.takeHead_streams (s : State) (p : Packet) (rest : List Packet) : (s.takeHead p rest).streams = s.streams := rfl
@[simp] theorem State.takeHead_arbiter (s : State) (p : Packet) (rest : List Packet) : (s.takeHead p rest).arbiter = s.arbiter := rfl
@[simp] theorem State.takeHead_link (s : State) (p : Packet) (rest : List Packet) : (s.takeHead p rest).link = s.link := rfl
@[simp] theorem State.takeHead_status (s : State) (p : Packet) (rest : List Packet) : (s.takeHead p rest).status = s.status := rfl
@[simp] theorem State.takeHead_output (s : State) (p : Packet) (rest : List Packet) : (s.takeHead p rest).output = s.output := rfl
@[simp] theorem State.takeHead_picks (s : State) (p : Packet) (rest : List Packet) : (s.takeHead p rest).picks = s.picks := rfl
@[simp] theorem State.takeHead_pending (s : State) (p : Packet) (rest : List Packet) : (s.takeHead p rest).pending = s.pending := rfl
@[simp] theorem State.takeHead_lane (s : State) (p : Packet) (rest : List Packet) (m : LaneId) : (s.takeHead p rest).lane m = s.lane m := rfl
@[simp] theorem State.takeHead_stream (s : State) (p : Packet) (rest : List Packet) (m : StreamId) : (s.takeHead p rest).stream m = s.stream m := rfl

/-! ### endRouting -/

@[simp] theorem State.endRouting_time (s : State) : s.endRouting.time = s.time := rfl
@[simp] theorem State.endRouting_station (s : State) : s.endRouting.station = s.station := rfl
@[simp] theorem State.endRouting_mastA (s : State) : s.endRouting.mastA = s.mastA := rfl
@[simp] theorem State.endRouting_mastB (s : State) : s.endRouting.mastB = s.mastB := rfl
@[simp] theorem State.endRouting_lanes (s : State) : s.endRouting.lanes = s.lanes := rfl
@[simp] theorem State.endRouting_survey (s : State) : s.endRouting.survey = s.survey := rfl
@[simp] theorem State.endRouting_fetcher (s : State) : s.endRouting.fetcher = s.fetcher := rfl
@[simp] theorem State.endRouting_streams (s : State) : s.endRouting.streams = s.streams := rfl
@[simp] theorem State.endRouting_arbiter (s : State) : s.endRouting.arbiter = s.arbiter := rfl
@[simp] theorem State.endRouting_link (s : State) : s.endRouting.link = s.link := rfl
@[simp] theorem State.endRouting_status (s : State) : s.endRouting.status = s.status := rfl
@[simp] theorem State.endRouting_output (s : State) : s.endRouting.output = s.output := rfl
@[simp] theorem State.endRouting_picks (s : State) : s.endRouting.picks = s.picks := rfl
@[simp] theorem State.endRouting_pending (s : State) : s.endRouting.pending = s.pending := rfl
@[simp] theorem State.endRouting_lane (s : State) (m : LaneId) : s.endRouting.lane m = s.lane m := rfl
@[simp] theorem State.endRouting_stream (s : State) (m : StreamId) : s.endRouting.stream m = s.stream m := rfl

/-! ### dropItem -/

@[simp] theorem State.dropItem_time (s : State) : s.dropItem.time = s.time := rfl
@[simp] theorem State.dropItem_station (s : State) : s.dropItem.station = s.station := rfl
@[simp] theorem State.dropItem_mastA (s : State) : s.dropItem.mastA = s.mastA := rfl
@[simp] theorem State.dropItem_mastB (s : State) : s.dropItem.mastB = s.mastB := rfl
@[simp] theorem State.dropItem_lanes (s : State) : s.dropItem.lanes = s.lanes := rfl
@[simp] theorem State.dropItem_survey (s : State) : s.dropItem.survey = s.survey := rfl
@[simp] theorem State.dropItem_router (s : State) : s.dropItem.router = s.router := rfl
@[simp] theorem State.dropItem_streams (s : State) : s.dropItem.streams = s.streams := rfl
@[simp] theorem State.dropItem_arbiter (s : State) : s.dropItem.arbiter = s.arbiter := rfl
@[simp] theorem State.dropItem_link (s : State) : s.dropItem.link = s.link := rfl
@[simp] theorem State.dropItem_status (s : State) : s.dropItem.status = s.status := rfl
@[simp] theorem State.dropItem_output (s : State) : s.dropItem.output = s.output := rfl
@[simp] theorem State.dropItem_picks (s : State) : s.dropItem.picks = s.picks := rfl
@[simp] theorem State.dropItem_pending (s : State) : s.dropItem.pending = s.pending := rfl
@[simp] theorem State.dropItem_lane (s : State) (m : LaneId) : s.dropItem.lane m = s.lane m := rfl
@[simp] theorem State.dropItem_stream (s : State) (m : StreamId) : s.dropItem.stream m = s.stream m := rfl

/-! ### takeItem -/

@[simp] theorem State.takeItem_time (s : State) (i : AttentionItem) : (s.takeItem i).time = s.time := rfl
@[simp] theorem State.takeItem_station (s : State) (i : AttentionItem) : (s.takeItem i).station = s.station := rfl
@[simp] theorem State.takeItem_mastA (s : State) (i : AttentionItem) : (s.takeItem i).mastA = s.mastA := rfl
@[simp] theorem State.takeItem_mastB (s : State) (i : AttentionItem) : (s.takeItem i).mastB = s.mastB := rfl
@[simp] theorem State.takeItem_lanes (s : State) (i : AttentionItem) : (s.takeItem i).lanes = s.lanes := rfl
@[simp] theorem State.takeItem_survey (s : State) (i : AttentionItem) : (s.takeItem i).survey = s.survey := rfl
@[simp] theorem State.takeItem_router (s : State) (i : AttentionItem) : (s.takeItem i).router = s.router := rfl
@[simp] theorem State.takeItem_streams (s : State) (i : AttentionItem) : (s.takeItem i).streams = s.streams := rfl
@[simp] theorem State.takeItem_arbiter (s : State) (i : AttentionItem) : (s.takeItem i).arbiter = s.arbiter := rfl
@[simp] theorem State.takeItem_link (s : State) (i : AttentionItem) : (s.takeItem i).link = s.link := rfl
@[simp] theorem State.takeItem_status (s : State) (i : AttentionItem) : (s.takeItem i).status = s.status := rfl
@[simp] theorem State.takeItem_output (s : State) (i : AttentionItem) : (s.takeItem i).output = s.output := rfl
@[simp] theorem State.takeItem_picks (s : State) (i : AttentionItem) : (s.takeItem i).picks = s.picks := rfl
@[simp] theorem State.takeItem_pending (s : State) (i : AttentionItem) : (s.takeItem i).pending = s.pending := rfl
@[simp] theorem State.takeItem_lane (s : State) (i : AttentionItem) (m : LaneId) : (s.takeItem i).lane m = s.lane m := rfl
@[simp] theorem State.takeItem_stream (s : State) (i : AttentionItem) (m : StreamId) : (s.takeItem i).stream m = s.stream m := rfl

/-! ### setPending -/

@[simp] theorem State.setPending_time (s : State) (p : PendingSet) : (s.setPending p).time = s.time := rfl
@[simp] theorem State.setPending_station (s : State) (p : PendingSet) : (s.setPending p).station = s.station := rfl
@[simp] theorem State.setPending_mastA (s : State) (p : PendingSet) : (s.setPending p).mastA = s.mastA := rfl
@[simp] theorem State.setPending_mastB (s : State) (p : PendingSet) : (s.setPending p).mastB = s.mastB := rfl
@[simp] theorem State.setPending_lanes (s : State) (p : PendingSet) : (s.setPending p).lanes = s.lanes := rfl
@[simp] theorem State.setPending_survey (s : State) (p : PendingSet) : (s.setPending p).survey = s.survey := rfl
@[simp] theorem State.setPending_router (s : State) (p : PendingSet) : (s.setPending p).router = s.router := rfl
@[simp] theorem State.setPending_streams (s : State) (p : PendingSet) : (s.setPending p).streams = s.streams := rfl
@[simp] theorem State.setPending_arbiter (s : State) (p : PendingSet) : (s.setPending p).arbiter = s.arbiter := rfl
@[simp] theorem State.setPending_link (s : State) (p : PendingSet) : (s.setPending p).link = s.link := rfl
@[simp] theorem State.setPending_status (s : State) (p : PendingSet) : (s.setPending p).status = s.status := rfl
@[simp] theorem State.setPending_output (s : State) (p : PendingSet) : (s.setPending p).output = s.output := rfl
@[simp] theorem State.setPending_picks (s : State) (p : PendingSet) : (s.setPending p).picks = s.picks := rfl
@[simp] theorem State.setPending_pending (s : State) (p : PendingSet) : (s.setPending p).pending = s.pending := rfl
@[simp] theorem State.setPending_lane (s : State) (p : PendingSet) (m : LaneId) : (s.setPending p).lane m = s.lane m := rfl
@[simp] theorem State.setPending_stream (s : State) (p : PendingSet) (m : StreamId) : (s.setPending p).stream m = s.stream m := rfl

/-! ### emptyPending -/

@[simp] theorem State.emptyPending_time (s : State) : s.emptyPending.time = s.time := rfl
@[simp] theorem State.emptyPending_station (s : State) : s.emptyPending.station = s.station := rfl
@[simp] theorem State.emptyPending_mastA (s : State) : s.emptyPending.mastA = s.mastA := rfl
@[simp] theorem State.emptyPending_mastB (s : State) : s.emptyPending.mastB = s.mastB := rfl
@[simp] theorem State.emptyPending_lanes (s : State) : s.emptyPending.lanes = s.lanes := rfl
@[simp] theorem State.emptyPending_survey (s : State) : s.emptyPending.survey = s.survey := rfl
@[simp] theorem State.emptyPending_router (s : State) : s.emptyPending.router = s.router := rfl
@[simp] theorem State.emptyPending_streams (s : State) : s.emptyPending.streams = s.streams := rfl
@[simp] theorem State.emptyPending_arbiter (s : State) : s.emptyPending.arbiter = s.arbiter := rfl
@[simp] theorem State.emptyPending_link (s : State) : s.emptyPending.link = s.link := rfl
@[simp] theorem State.emptyPending_status (s : State) : s.emptyPending.status = s.status := rfl
@[simp] theorem State.emptyPending_output (s : State) : s.emptyPending.output = s.output := rfl
@[simp] theorem State.emptyPending_picks (s : State) : s.emptyPending.picks = s.picks := rfl
@[simp] theorem State.emptyPending_pending (s : State) : s.emptyPending.pending = s.pending := rfl
@[simp] theorem State.emptyPending_lane (s : State) (m : LaneId) : s.emptyPending.lane m = s.lane m := rfl
@[simp] theorem State.emptyPending_stream (s : State) (m : StreamId) : s.emptyPending.stream m = s.stream m := rfl

/-! ### addFilterItem -/

@[simp] theorem State.addFilterItem_time (s : State) : s.addFilterItem.time = s.time := rfl
@[simp] theorem State.addFilterItem_station (s : State) : s.addFilterItem.station = s.station := rfl
@[simp] theorem State.addFilterItem_mastA (s : State) : s.addFilterItem.mastA = s.mastA := rfl
@[simp] theorem State.addFilterItem_mastB (s : State) : s.addFilterItem.mastB = s.mastB := rfl
@[simp] theorem State.addFilterItem_lanes (s : State) : s.addFilterItem.lanes = s.lanes := rfl
@[simp] theorem State.addFilterItem_survey (s : State) : s.addFilterItem.survey = s.survey := rfl
@[simp] theorem State.addFilterItem_router (s : State) : s.addFilterItem.router = s.router := rfl
@[simp] theorem State.addFilterItem_streams (s : State) : s.addFilterItem.streams = s.streams := rfl
@[simp] theorem State.addFilterItem_arbiter (s : State) : s.addFilterItem.arbiter = s.arbiter := rfl
@[simp] theorem State.addFilterItem_link (s : State) : s.addFilterItem.link = s.link := rfl
@[simp] theorem State.addFilterItem_status (s : State) : s.addFilterItem.status = s.status := rfl
@[simp] theorem State.addFilterItem_output (s : State) : s.addFilterItem.output = s.output := rfl
@[simp] theorem State.addFilterItem_picks (s : State) : s.addFilterItem.picks = s.picks := rfl
@[simp] theorem State.addFilterItem_pending (s : State) : s.addFilterItem.pending = s.pending := rfl
@[simp] theorem State.addFilterItem_lane (s : State) (m : LaneId) : s.addFilterItem.lane m = s.lane m := rfl
@[simp] theorem State.addFilterItem_stream (s : State) (m : StreamId) : s.addFilterItem.stream m = s.stream m := rfl

/-! ### clearDwell -/

@[simp] theorem State.clearDwell_time (s : State) : s.clearDwell.time = s.time := rfl
@[simp] theorem State.clearDwell_station (s : State) : s.clearDwell.station = s.station := rfl
@[simp] theorem State.clearDwell_mastA (s : State) : s.clearDwell.mastA = s.mastA := rfl
@[simp] theorem State.clearDwell_mastB (s : State) : s.clearDwell.mastB = s.mastB := rfl
@[simp] theorem State.clearDwell_lanes (s : State) : s.clearDwell.lanes = s.lanes := rfl
@[simp] theorem State.clearDwell_fetcher (s : State) : s.clearDwell.fetcher = s.fetcher := rfl
@[simp] theorem State.clearDwell_router (s : State) : s.clearDwell.router = s.router := rfl
@[simp] theorem State.clearDwell_streams (s : State) : s.clearDwell.streams = s.streams := rfl
@[simp] theorem State.clearDwell_arbiter (s : State) : s.clearDwell.arbiter = s.arbiter := rfl
@[simp] theorem State.clearDwell_link (s : State) : s.clearDwell.link = s.link := rfl
@[simp] theorem State.clearDwell_status (s : State) : s.clearDwell.status = s.status := rfl
@[simp] theorem State.clearDwell_output (s : State) : s.clearDwell.output = s.output := rfl
@[simp] theorem State.clearDwell_picks (s : State) : s.clearDwell.picks = s.picks := rfl
@[simp] theorem State.clearDwell_pending (s : State) : s.clearDwell.pending = s.pending := rfl
@[simp] theorem State.clearDwell_lane (s : State) (m : LaneId) : s.clearDwell.lane m = s.lane m := rfl
@[simp] theorem State.clearDwell_stream (s : State) (m : StreamId) : s.clearDwell.stream m = s.stream m := rfl

/-! ### placeRequests -/

@[simp] theorem State.placeRequests_time (s : State) : s.placeRequests.time = s.time := rfl
@[simp] theorem State.placeRequests_station (s : State) : s.placeRequests.station = s.station := rfl
@[simp] theorem State.placeRequests_mastA (s : State) : s.placeRequests.mastA = s.mastA := rfl
@[simp] theorem State.placeRequests_mastB (s : State) : s.placeRequests.mastB = s.mastB := rfl
@[simp] theorem State.placeRequests_lanes (s : State) : s.placeRequests.lanes = s.lanes := rfl
@[simp] theorem State.placeRequests_survey (s : State) : s.placeRequests.survey = s.survey := rfl
@[simp] theorem State.placeRequests_fetcher (s : State) : s.placeRequests.fetcher = s.fetcher := rfl
@[simp] theorem State.placeRequests_router (s : State) : s.placeRequests.router = s.router := rfl
@[simp] theorem State.placeRequests_streams (s : State) : s.placeRequests.streams = s.streams := rfl
@[simp] theorem State.placeRequests_link (s : State) : s.placeRequests.link = s.link := rfl
@[simp] theorem State.placeRequests_status (s : State) : s.placeRequests.status = s.status := rfl
@[simp] theorem State.placeRequests_output (s : State) : s.placeRequests.output = s.output := rfl
@[simp] theorem State.placeRequests_pending (s : State) : s.placeRequests.pending = s.pending := rfl
@[simp] theorem State.placeRequests_lane (s : State) (m : LaneId) : s.placeRequests.lane m = s.lane m := rfl
@[simp] theorem State.placeRequests_stream (s : State) (m : StreamId) : s.placeRequests.stream m = s.stream m := rfl

/-! ### What the updates put -/

theorem State.setLane_lane (s : State) (n m : LaneId) (l : Lane) :
    (s.setLane n l).lane m = if n = m then l else s.lane m := by
  simp only [State.lane, State.setLane, Fin.getElem_fin, Vector.getElem_set, Fin.ext_iff]

@[simp] theorem State.setLane_lane_self (s : State) (n : LaneId) (l : Lane) : (s.setLane n l).lane n = l := by
  simp [State.setLane_lane]

@[simp] theorem State.setLane_lane_ne (s : State) {n m : LaneId} (l : Lane) (h : n ≠ m) :
    (s.setLane n l).lane m = s.lane m := by
  simp [State.setLane_lane, h]

@[simp] theorem State.modLane_lane_self (s : State) (n : LaneId) (f : Lane → Lane) :
    (s.modLane n f).lane n = f (s.lane n) :=
  s.setLane_lane_self n _

@[simp] theorem State.modLane_lane_ne (s : State) {n m : LaneId} (f : Lane → Lane) (h : n ≠ m) :
    (s.modLane n f).lane m = s.lane m :=
  s.setLane_lane_ne _ h

theorem State.setStream_stream (s : State) (n m : StreamId) (w : StreamWriter) :
    (s.setStream n w).stream m = if n = m then w else s.stream m := by
  simp only [State.stream, State.setStream, Fin.getElem_fin, Vector.getElem_set, Fin.ext_iff]

@[simp] theorem State.setStream_stream_self (s : State) (n : StreamId) (w : StreamWriter) :
    (s.setStream n w).stream n = w := by
  simp [State.setStream_stream]

@[simp] theorem State.setStream_stream_ne (s : State) {n m : StreamId} (w : StreamWriter) (h : n ≠ m) :
    (s.setStream n w).stream m = s.stream m := by
  simp [State.setStream_stream, h]

@[simp] theorem State.modStream_stream_self (s : State) (n : StreamId) (f : StreamWriter → StreamWriter) :
    (s.modStream n f).stream n = f (s.stream n) :=
  s.setStream_stream_self n _

@[simp] theorem State.modStream_stream_ne (s : State) {n m : StreamId} (f : StreamWriter → StreamWriter) (h : n ≠ m) :
    (s.modStream n f).stream m = s.stream m :=
  s.setStream_stream_ne _ h

theorem State.setAnswer_answer (s : State) (n m : LaneId) (a : SlotAnswer) :
    (s.setAnswer n a).answer m = if n = m then a else s.answer m := by
  simp only [State.answer, State.setAnswer, Fin.getElem_fin, Vector.getElem_set, Fin.ext_iff]

@[simp] theorem State.setAnswer_answer_self (s : State) (n : LaneId) (a : SlotAnswer) :
    (s.setAnswer n a).answer n = a := by
  simp [State.setAnswer_answer]

@[simp] theorem State.setAnswer_answer_ne (s : State) {n m : LaneId} (a : SlotAnswer) (h : n ≠ m) :
    (s.setAnswer n a).answer m = s.answer m := by
  simp [State.setAnswer_answer, h]

@[simp] theorem State.freePort_port (s : State) : s.freePort.arbiter.port = none := rfl
@[simp] theorem State.freePort_queue (s : State) : s.freePort.arbiter.queue = s.arbiter.queue := rfl
@[simp] theorem State.freePort_rotation (s : State) : s.freePort.arbiter.rotation = s.arbiter.rotation := rfl
@[simp] theorem State.freePort_fresh (s : State) : s.freePort.arbiter.fresh = s.arbiter.fresh := rfl
@[simp] theorem State.endRace_queue (s : State) : s.endRace.arbiter.queue = s.arbiter.queue := rfl
@[simp] theorem State.endRace_port (s : State) : s.endRace.arbiter.port = s.arbiter.port := rfl
@[simp] theorem State.endRace_rotation (s : State) : s.endRace.arbiter.rotation = s.arbiter.rotation := rfl
@[simp] theorem State.endRace_fresh (s : State) : s.endRace.arbiter.fresh = 0 := rfl
@[simp] theorem State.endRace_handedTo (s : State) : s.endRace.arbiter.handedTo = none := rfl
@[simp] theorem State.setQueue_rotation (s : State) (q : List Requester) : (s.setQueue q).arbiter.rotation = s.arbiter.rotation := rfl
@[simp] theorem State.placeRequests_port (s : State) : s.placeRequests.arbiter.port = s.arbiter.port := rfl
@[simp] theorem State.placeRequests_handedTo (s : State) : s.placeRequests.arbiter.handedTo = s.racingStream := rfl
@[simp] theorem State.issue_port (s : State) (t : Transfer) : (s.issue t).arbiter.port = some t := rfl
@[simp] theorem State.issue_queue (s : State) (t : Transfer) : (s.issue t).arbiter.queue = s.arbiter.queue := rfl
@[simp] theorem State.setQueue_queue (s : State) (q : List Requester) : (s.setQueue q).arbiter.queue = q := rfl
@[simp] theorem State.setQueue_port (s : State) (q : List Requester) : (s.setQueue q).arbiter.port = s.arbiter.port := rfl
@[simp] theorem State.setNotices_notice (s : State) (x y : BitVec 7) : (s.setNotices x y).link.notice = x := rfl
@[simp] theorem State.setNotices_enable (s : State) (x y : BitVec 7) : (s.setNotices x y).link.enable = y := rfl
@[simp] theorem State.raise_notice (s : State) (c : Cause) : (s.raise c).link.notice = s.link.notice ||| c.bit := rfl
@[simp] theorem State.raise_enable (s : State) (c : Cause) : (s.raise c).link.enable = s.link.enable := rfl
@[simp] theorem State.raise_device (s : State) (c : Cause) : (s.raise c).link.device = s.link.device := rfl
@[simp] theorem State.raise_base (s : State) (c : Cause) : (s.raise c).link.base = s.link.base := rfl
@[simp] theorem State.raise_run (s : State) (c : Cause) : (s.raise c).link.run = s.link.run := rfl
@[simp] theorem State.raise_loadFault (s : State) (c : Cause) : (s.raise c).link.loadFault = s.link.loadFault := rfl
@[simp] theorem State.raise_linkErrors (s : State) (c : Cause) : (s.raise c).link.linkErrors = s.link.linkErrors := rfl
@[simp] theorem State.raise_lastFault (s : State) (c : Cause) : (s.raise c).link.lastFault = s.link.lastFault := rfl
@[simp] theorem State.raise_writes (s : State) (c : Cause) : (s.raise c).output.writes = s.output.writes := rfl
@[simp] theorem State.raiseIf_true (s : State) (c : Cause) : s.raiseIf true c = s.raise c := rfl
@[simp] theorem State.raiseIf_false (s : State) (c : Cause) : s.raiseIf false c = s := rfl
@[simp] theorem State.setDevice_device (s : State) (d : DeviceState) : (s.setDevice d).link.device = d := rfl
@[simp] theorem State.setBase_base (s : State) (a : Addr) : (s.setBase a).link.base = a := rfl
@[simp] theorem State.setRun_run (s : State) (b : Bool) : (s.setRun b).link.run = b := rfl
@[simp] theorem State.setShadow_shadow (s : State) (x : Shadow) : (s.setShadow x).router.shadow = x := rfl
@[simp] theorem State.setPending_set (s : State) (p : PendingSet) : (s.setPending p).fetcher.pendingSet = p := rfl
@[simp] theorem State.emptyPending_set (s : State) : s.emptyPending.fetcher.pendingSet = .empty := rfl
@[simp] theorem State.dropItem_item (s : State) : s.dropItem.fetcher.item = none := rfl
@[simp] theorem State.clearDwell_dwell (s : State) : s.clearDwell.survey.dwell = none := rfl
@[simp] theorem State.clearDwell_queue (s : State) : s.clearDwell.survey.queue = s.survey.queue := rfl

/-- The Mast Front End of one mast after that of another is replaced. -/
theorem State.setFront_front (s : State) (m k : Mast) (f : MastFrontEnd) :
    (s.setFront m f).front k = if m = k then f else s.front k := by
  cases m <;> cases k <;> rfl

end Sys2Proof.Machine
end

