-- ==== Sys2Proof/Laws/Ops.lean ====
section
/-! SUPPORT. One lemma for each shared operation, saying once what it can do. Proofs cite these in place of unfolding the operation. -/

namespace Sys2Proof

/-! ### Tables -/

@[simp] theorem Vec.map_getElem {α β : Type} {n : Nat} (f : α → β) (v : Vector α n) (i : Nat) (h : i < n) :
    (Vec.map f v)[i] = f v[i] := by
  simp [Vec.map]

@[simp] theorem Vec.mapIdx_getElem {α β : Type} {n : Nat} (f : Nat → α → β) (v : Vector α n) (i : Nat) (h : i < n) :
    (Vec.mapIdx f v)[i] = f i v[i] := by
  simp [Vec.mapIdx]

@[simp] theorem Vec.zipWith_getElem {α β γ : Type} {n : Nat} (f : α → β → γ) (v : Vector α n) (w : Vector β n)
    (i : Nat) (h : i < n) : (Vec.zipWith f v w)[i] = f v[i] w[i] := by
  simp [Vec.zipWith]

theorem Vec.any_iff {α : Type} {n : Nat} (p : α → Bool) (v : Vector α n) :
    Vec.any p v = true ↔ ∃ (i : Nat) (h : i < n), p v[i] = true := by
  simp only [Vec.any, List.any_eq_true, Vector.mem_toList_iff, Vector.mem_iff_getElem]
  exact ⟨fun ⟨_, ⟨place, below, here⟩, holds⟩ => ⟨place, below, here ▸ holds⟩, fun ⟨_, below, holds⟩ => ⟨_, ⟨_, below, rfl⟩, holds⟩⟩

theorem mem_allLanes (n : LaneId) : n ∈ allLanes := by
  revert n; decide

theorem mem_allStreams (n : StreamId) : n ∈ allStreams := by
  revert n; decide

theorem mem_allEntries (n : EntryId) : n ∈ allEntries := by
  revert n; decide

theorem allLanes_nodup : allLanes.Nodup := by
  decide

theorem allStreams_nodup : allStreams.Nodup := by
  decide

namespace Machine

/-! ### Counters and bytes -/

/-- A saturating count increased by k, as a number (00_scope, Counters). -/
theorem satAdd_toNat (c : Counter) (k : Nat) : (satAdd c k).toNat = min (c.toNat + k) 4294967295 := by
  unfold satAdd
  split
  · rename_i h
    rw [BitVec.toNat_ofNat, Nat.mod_eq_of_lt h]
    omega
  · have : (BitVec.allOnes 32).toNat = 4294967295 := by decide
    omega

theorem satInc_toNat (c : Counter) : (satInc c).toNat = min (c.toNat + 1) 4294967295 :=
  satAdd_toNat c 1

@[simp] theorem leBytes_length (k x : Nat) : (leBytes k x).length = k := by
  induction k generalizing x with
  | zero => rfl
  | succ k ih => simp [leBytes, ih]

@[simp] theorem zeros_length (k : Nat) : (zeros k).length = k := by
  simp [zeros]

/-- The spans of R181: a slot is 192 bytes. -/
theorem Slot.bytes192_length (p : Slot) : p.bytes192.length = 192 := by
  simp [Slot.bytes192]

theorem WriteBackImage.bytes_length (i : WriteBackImage) : i.bytes.length = 16 := by
  simp [WriteBackImage.bytes, timeBytes]

theorem laneRecordBytes_length (l : Lane) (m : Option Nat) (c : Counter) : (laneRecordBytes l m c).length = 64 := by
  simp [laneRecordBytes, LaneCounters.bytes, counterBytes, timeBytes]

theorem stationRecordBytes_length (s : State) (c : Counter) : (stationRecordBytes s c).length = 128 := by
  simp [stationRecordBytes, LastFault.bytes, counterBytes, timeBytes]

theorem StreamWriter.writeBackBytes_length (w : StreamWriter) : w.writeBackBytes.length = 48 := by
  simp [StreamWriter.writeBackBytes, StreamCounters.bytes, counterBytes]

theorem BufferClose.fieldBytes_length (c : BufferClose) (q : Counter) : (c.fieldBytes q).length = 13 := by
  unfold BufferClose.fieldBytes stampBytes
  split <;> simp [counterBytes]

/-! ### Quality arithmetic -/

theorem trimmedSample_le (raw : Nat) (trim : Int) : trimmedSample raw trim ≤ 127 := by
  unfold trimmedSample clamp
  split
  · omega
  · split <;> omega

/-- What a blanking verdict can be (R36). -/
theorem blanking_cases (hit : Bool) (hits limit : Nat) :
    (hit = false ∧ blanking hit hits limit = (false, 0)) ∨
    (hit = true ∧ hits < limit ∧ blanking hit hits limit = (true, min 255 (hits + 1))) ∨
    (hit = true ∧ limit ≤ hits ∧ blanking hit hits limit = (false, min 255 (hits + 1))) := by
  cases hit
  · simp [blanking]
  · rcases Nat.lt_or_ge hits limit with h | h
    · simp [blanking, h]
    · simp [blanking, h, Nat.not_lt.2 h]

/-! ### The ends of transfers (R158, R164 to R166) -/

/-- A read ends with an error handed on, or without one. -/
theorem State.endRead_cases (s : State) (t : Transfer) (error : Bool) (who : FaultRequester) :
    (error = true ∧ t.abandoned = false ∧ s.endRead t error who = s.freePort.linkError .readError who t.address) ∨
    ((error = false ∨ t.abandoned = true) ∧ s.endRead t error who = s.freePort) := by
  cases error <;> cases h : t.abandoned <;> simp [State.endRead, h]

/-- A write ends accepted, with an error handed on, or with one handed to nobody. -/
theorem State.endWrite_cases (s : State) (t : Transfer) (result : WriteResult) (who : FaultRequester) :
    (result = .accepted ∧ s.endWrite t result who = s.freePort.accept t) ∨
    (result = .error ∧ t.abandoned = false ∧ s.endWrite t result who = s.freePort.linkError .writeError who t.address) ∨
    (result = .error ∧ t.abandoned = true ∧ s.endWrite t result who = s.freePort) := by
  cases result <;> cases h : t.abandoned <;> simp [State.endWrite, h]

/-- The end of a read touches the Transfer Arbiter as freeing the port does, the Link Port's fault record and the notices alone. -/
theorem State.endRead_frame (s : State) (t : Transfer) (error : Bool) (who : FaultRequester) :
    (s.endRead t error who).arbiter = s.freePort.arbiter ∧
    { s.endRead t error who with arbiter := s.arbiter, link := s.link, output := s.output } = s := by
  rcases s.endRead_cases t error who with ⟨-, -, h⟩ | ⟨-, h⟩ <;> rw [h] <;> exact ⟨rfl, rfl⟩

/-- The end of a write touches the Transfer Arbiter as freeing the port does, the Link Port's fault record, the notices and what has been sent alone. -/
theorem State.endWrite_frame (s : State) (t : Transfer) (result : WriteResult) (who : FaultRequester) :
    (s.endWrite t result who).arbiter = s.freePort.arbiter ∧
    { s.endWrite t result who with arbiter := s.arbiter, link := s.link, output := s.output } = s := by
  rcases s.endWrite_cases t result who with ⟨-, h⟩ | ⟨-, -, h⟩ | ⟨-, -, h⟩ <;> rw [h] <;> exact ⟨rfl, rfl⟩

/-! ### Requests (R159, R160) -/

/-- A request placed among others stands once more in the list, wherever. -/
theorem placeAmong_perm (placed : List Requester) (picks : Nat) (r : Requester) :
    (placeAmong placed picks r).1.Perm (r :: placed) := by
  cases placed with
  | nil => exact .refl _
  | cons a as =>
    have h : Config.placeAt picks % ((a :: as).length + 1) ≤ (a :: as).length :=
      Nat.lt_succ_iff.1 (Nat.mod_lt _ (Nat.succ_pos _))
    exact List.perm_insertIdx r (a :: as) h

/-- Requests placed together are those given, in some order. -/
theorem shuffleIn_perm (placed new : List Requester) (picks : Nat) :
    (shuffleIn placed new picks).1.Perm (new ++ placed) := by
  induction new generalizing placed picks with
  | nil => exact .refl _
  | cons r rs ih =>
    refine (ih _ _).trans (.trans ?_ List.perm_middle)
    exact (placeAmong_perm placed picks r).append_left rs

theorem mem_allRecords (r : StatusRecord) : r ∈ allRecords := by
  cases r with
  | station => simp [allRecords]
  | lane n => simp [allRecords, mem_allLanes]

theorem allRecords_nodup : allRecords.Nodup := by
  decide

/-- A member of a mapped list, by the element it comes from, with a property said of the member. -/
theorem exists_image_iff {α β : Type} (f : α → β) (wanted : α → Prop) (free : β → Prop) (q : β) :
    (∃ r, (wanted r ∧ free (f r)) ∧ f r = q) ↔ ∃ r, q = f r ∧ wanted r ∧ free q :=
  exists_congr fun r => by
    rw [and_comm, eq_comm]
    exact and_congr_right fun same => by rw [same]

theorem State.mem_newStatusRequests (s : State) (q : Requester) :
    q ∈ s.newStatusRequests ↔ ∃ r, q = .status r ∧ s.status.owes r = true ∧ s.outstanding q = false := by
  simp only [State.newStatusRequests, List.mem_map, List.mem_filter, mem_allRecords, true_and, Bool.and_eq_true,
    Bool.not_eq_true']
  exact exists_image_iff Requester.status (fun r => s.status.owes r = true) (fun r => s.outstanding r = false) q

theorem State.mem_newSingleRequests (s : State) (q : Requester) :
    q ∈ s.newSingleRequests ↔
      (q = .fetcher ∧ s.fetcherWants = true ∧ s.outstanding q = false) ∨
      ∃ n, q = .stream n ∧ (s.stream n).wants = true ∧ s.outstanding q = false := by
  simp only [State.newSingleRequests, List.mem_append, List.mem_map, List.mem_filter, mem_allStreams, true_and,
    Bool.and_eq_true, Bool.not_eq_true']
  refine or_congr ?_ (exists_image_iff Requester.stream (fun n => (s.stream n).wants = true) (fun r => s.outstanding r = false) q)
  by_cases asks : s.fetcherWants = true ∧ s.outstanding .fetcher = false
  · rw [if_pos asks, List.mem_singleton]
    exact ⟨fun same => by rw [same]; exact ⟨rfl, asks⟩, And.left⟩
  · rw [if_neg asks]
    exact ⟨fun member => absurd member List.not_mem_nil, fun ⟨same, rest⟩ => absurd (same ▸ rest) asks⟩

/-- Placing requests touches the Record Queue, what says which requests are new, and the count of free values alone. -/
theorem State.placeRequests_frame (s : State) :
    s.placeRequests.withoutArbiter = s.withoutArbiter ∧ s.placeRequests.arbiter.port = s.arbiter.port ∧
      s.placeRequests.arbiter.rotation = s.arbiter.rotation ∧ s.placeRequests.arbiter.handedTo = s.racingStream :=
  ⟨rfl, rfl, rfl, rfl⟩

/-- STATUS-NOW is taken, or nothing changes. -/
theorem State.takeStatusNow_cases (s : State) :
    s.takeStatusNow = s ∨
    (s.link.device = .running ∧ s.fetcher.item = none ∧ s.fetcher.pendingSet.statusNow = true ∧
      s.takeStatusNow = State.oweAll
        { s with fetcher := { s.fetcher with pendingSet := { s.fetcher.pendingSet with statusNow := false } } }) := by
  unfold State.takeStatusNow
  simp only
  split
  · rename_i h
    simp only [Bool.and_eq_true, Option.isNone_iff_eq_none, beq_iff_eq] at h
    exact .inr ⟨h.1.1.1, h.1.1.2, h.1.2, rfl⟩
  · exact .inl rfl

/-- All of the state but what `settle` can touch: the Plan Fetcher, the Status Writer, the Transfer Arbiter, the count of free values. -/
def State.withoutSettled (s : State) : State :=
  { s with fetcher := .reset, status := .reset, arbiter := { Arbiter.reset with port := s.arbiter.port }, picks := 0 }

/-- `settle` leaves everything else alone. -/
theorem State.settle_frame (s : State) : s.settle.withoutSettled = s.withoutSettled := by
  rcases s.takeStatusNow_cases with h | ⟨-, -, -, h⟩ <;> rw [State.settle, h] <;> rfl

@[simp] theorem State.settle_time (s : State) : (s.settle).time = s.time := by
  have h := congrArg State.time (s.settle_frame)
  exact h
@[simp] theorem State.settle_station (s : State) : (s.settle).station = s.station := by
  have h := congrArg State.station (s.settle_frame)
  exact h
@[simp] theorem State.settle_mastA (s : State) : (s.settle).mastA = s.mastA := by
  have h := congrArg State.mastA (s.settle_frame)
  exact h
@[simp] theorem State.settle_mastB (s : State) : (s.settle).mastB = s.mastB := by
  have h := congrArg State.mastB (s.settle_frame)
  exact h
@[simp] theorem State.settle_lanes (s : State) : (s.settle).lanes = s.lanes := by
  have h := congrArg State.lanes (s.settle_frame)
  exact h
@[simp] theorem State.settle_survey (s : State) : (s.settle).survey = s.survey := by
  have h := congrArg State.survey (s.settle_frame)
  exact h
@[simp] theorem State.settle_router (s : State) : (s.settle).router = s.router := by
  have h := congrArg State.router (s.settle_frame)
  exact h
@[simp] theorem State.settle_streams (s : State) : (s.settle).streams = s.streams := by
  have h := congrArg State.streams (s.settle_frame)
  exact h
@[simp] theorem State.settle_link (s : State) : (s.settle).link = s.link := by
  have h := congrArg State.link (s.settle_frame)
  exact h
@[simp] theorem State.settle_output (s : State) : (s.settle).output = s.output := by
  have h := congrArg State.output (s.settle_frame)
  exact h
@[simp] theorem State.settle_pending (s : State) : (s.settle).pending = s.pending := by
  have h := congrArg State.pending (s.settle_frame)
  exact h
@[simp] theorem State.settle_port (s : State) : (s.settle).arbiter.port = s.arbiter.port := by
  have h := congrArg (fun t : State => t.arbiter.port) (s.settle_frame)
  exact h
@[simp] theorem State.settle_lane (s : State) (n : LaneId) : (s.settle).lane n = s.lane n := by
  have h := congrArg (fun t : State => t.lane n) (s.settle_frame)
  exact h
@[simp] theorem State.settle_stream (s : State) (n : StreamId) : (s.settle).stream n = s.stream n := by
  have h := congrArg (fun t : State => t.stream n) (s.settle_frame)
  exact h

/-! ### Survey Unit: its operations touch nothing but the Survey Unit -/

/-- A dwell starts for a request of a lane with an applied plan, or nothing changes (R82). -/
theorem State.startDwell_cases (s : State) (r : SurveyRequest) :
    (s.lane r.lane).applied = none ∧ s.startDwell r = s ∨
    ∃ p mast, (s.lane r.lane).applied = some p ∧ mast = opposite (s.lane r.lane).activeMast ∧
      s.startDwell r = { s with survey := { s.survey with
        queue := s.survey.queue.erase r
        dwell := some { lane := r.lane, cls := r.cls, mast := mast, length := p.dwell, settling := 0, sampled := 0, sum := 0,
                        count := 0, hits := 0 }
        tap := { setting := some { centre := p.centre, bandwidth := p.bandwidth, mast := mast }, hit := false } } } := by
  unfold State.startDwell
  split
  · rename_i h
    exact .inl ⟨h, rfl⟩
  · rename_i p h
    exact .inr ⟨p, _, h, rfl, rfl⟩

/-- All of the state but the Survey Unit. -/
def State.withoutSurvey (s : State) : State :=
  { s with survey := .reset }

theorem State.preempt_frame (s : State) : s.preempt.withoutSurvey = s.withoutSurvey := by
  unfold State.preempt
  split
  · rfl
  · split <;> rfl

theorem State.startDwell_frame (s : State) (r : SurveyRequest) :
    (s.startDwell r).withoutSurvey = s.withoutSurvey := by
  rcases s.startDwell_cases r with ⟨-, h⟩ | ⟨p, mast, -, -, h⟩
  · rw [h]
  · rw [h]; rfl

theorem State.chooseSurvey_frame (s : State) : s.chooseSurvey.withoutSurvey = s.withoutSurvey := by
  unfold State.chooseSurvey
  split
  · rfl
  · split
    · rfl
    · exact s.startDwell_frame _

theorem State.surveySettle_frame (s : State) : s.surveySettle.withoutSurvey = s.withoutSurvey :=
  s.preempt.chooseSurvey_frame.trans s.preempt_frame

theorem State.fileRequest_frame (s : State) (n : LaneId) (c : SurveyClass) :
    (s.fileRequest n c).withoutSurvey = s.withoutSurvey :=
  (State.surveySettle_frame _).trans rfl

theorem State.fadeRequest_frame (s : State) (n : LaneId) : (s.fadeRequest n).withoutSurvey = s.withoutSurvey := by
  unfold State.fadeRequest
  split
  · exact (State.surveySettle_frame _).trans rfl
  · exact s.fileRequest_frame n .fade

theorem State.dropRequest_frame (s : State) (n : LaneId) : (s.dropRequest n).withoutSurvey = s.withoutSurvey := by
  unfold State.dropRequest
  simp only
  split
  · rfl
  · split <;> rfl

theorem State.withdrawRequest_frame (s : State) (n : LaneId) :
    (s.withdrawRequest n).withoutSurvey = s.withoutSurvey := by
  unfold State.withdrawRequest
  split
  · exact (s.dropRequest n).surveySettle_frame.trans (s.dropRequest_frame n)
  · rfl

@[simp] theorem State.surveySettle_time (s : State) : (s.surveySettle).time = s.time := by
  have h := congrArg State.time (s.surveySettle_frame)
  exact h
@[simp] theorem State.surveySettle_station (s : State) : (s.surveySettle).station = s.station := by
  have h := congrArg State.station (s.surveySettle_frame)
  exact h
@[simp] theorem State.surveySettle_mastA (s : State) : (s.surveySettle).mastA = s.mastA := by
  have h := congrArg State.mastA (s.surveySettle_frame)
  exact h
@[simp] theorem State.surveySettle_mastB (s : State) : (s.surveySettle).mastB = s.mastB := by
  have h := congrArg State.mastB (s.surveySettle_frame)
  exact h
@[simp] theorem State.surveySettle_lanes (s : State) : (s.surveySettle).lanes = s.lanes := by
  have h := congrArg State.lanes (s.surveySettle_frame)
  exact h
@[simp] theorem State.surveySettle_fetcher (s : State) : (s.surveySettle).fetcher = s.fetcher := by
  have h := congrArg State.fetcher (s.surveySettle_frame)
  exact h
@[simp] theorem State.surveySettle_router (s : State) : (s.surveySettle).router = s.router := by
  have h := congrArg State.router (s.surveySettle_frame)
  exact h
@[simp] theorem State.surveySettle_streams (s : State) : (s.surveySettle).streams = s.streams := by
  have h := congrArg State.streams (s.surveySettle_frame)
  exact h
@[simp] theorem State.surveySettle_arbiter (s : State) : (s.surveySettle).arbiter = s.arbiter := by
  have h := congrArg State.arbiter (s.surveySettle_frame)
  exact h
@[simp] theorem State.surveySettle_link (s : State) : (s.surveySettle).link = s.link := by
  have h := congrArg State.link (s.surveySettle_frame)
  exact h
@[simp] theorem State.surveySettle_status (s : State) : (s.surveySettle).status = s.status := by
  have h := congrArg State.status (s.surveySettle_frame)
  exact h
@[simp] theorem State.surveySettle_output (s : State) : (s.surveySettle).output = s.output := by
  have h := congrArg State.output (s.surveySettle_frame)
  exact h
@[simp] theorem State.surveySettle_picks (s : State) : (s.surveySettle).picks = s.picks := by
  have h := congrArg State.picks (s.surveySettle_frame)
  exact h
@[simp] theorem State.surveySettle_pending (s : State) : (s.surveySettle).pending = s.pending := by
  have h := congrArg State.pending (s.surveySettle_frame)
  exact h
@[simp] theorem State.surveySettle_lane (s : State) (m : LaneId) : (s.surveySettle).lane m = s.lane m := by
  have h := congrArg (fun t : State => t.lane m) (s.surveySettle_frame)
  exact h
@[simp] theorem State.surveySettle_stream (s : State) (m : StreamId) : (s.surveySettle).stream m = s.stream m := by
  have h := congrArg (fun t : State => t.stream m) (s.surveySettle_frame)
  exact h
@[simp] theorem State.withdrawRequest_time (s : State) (n : LaneId) : (s.withdrawRequest n).time = s.time := by
  have h := congrArg State.time (s.withdrawRequest_frame n)
  exact h
@[simp] theorem State.withdrawRequest_station (s : State) (n : LaneId) : (s.withdrawRequest n).station = s.station := by
  have h := congrArg State.station (s.withdrawRequest_frame n)
  exact h
@[simp] theorem State.withdrawRequest_mastA (s : State) (n : LaneId) : (s.withdrawRequest n).mastA = s.mastA := by
  have h := congrArg State.mastA (s.withdrawRequest_frame n)
  exact h
@[simp] theorem State.withdrawRequest_mastB (s : State) (n : LaneId) : (s.withdrawRequest n).mastB = s.mastB := by
  have h := congrArg State.mastB (s.withdrawRequest_frame n)
  exact h
@[simp] theorem State.withdrawRequest_lanes (s : State) (n : LaneId) : (s.withdrawRequest n).lanes = s.lanes := by
  have h := congrArg State.lanes (s.withdrawRequest_frame n)
  exact h
@[simp] theorem State.withdrawRequest_fetcher (s : State) (n : LaneId) : (s.withdrawRequest n).fetcher = s.fetcher := by
  have h := congrArg State.fetcher (s.withdrawRequest_frame n)
  exact h
@[simp] theorem State.withdrawRequest_router (s : State) (n : LaneId) : (s.withdrawRequest n).router = s.router := by
  have h := congrArg State.router (s.withdrawRequest_frame n)
  exact h
@[simp] theorem State.withdrawRequest_streams (s : State) (n : LaneId) : (s.withdrawRequest n).streams = s.streams := by
  have h := congrArg State.streams (s.withdrawRequest_frame n)
  exact h
@[simp] theorem State.withdrawRequest_arbiter (s : State) (n : LaneId) : (s.withdrawRequest n).arbiter = s.arbiter := by
  have h := congrArg State.arbiter (s.withdrawRequest_frame n)
  exact h
@[simp] theorem State.withdrawRequest_link (s : State) (n : LaneId) : (s.withdrawRequest n).link = s.link := by
  have h := congrArg State.link (s.withdrawRequest_frame n)
  exact h
@[simp] theorem State.withdrawRequest_status (s : State) (n : LaneId) : (s.withdrawRequest n).status = s.status := by
  have h := congrArg State.status (s.withdrawRequest_frame n)
  exact h
@[simp] theorem State.withdrawRequest_output (s : State) (n : LaneId) : (s.withdrawRequest n).output = s.output := by
  have h := congrArg State.output (s.withdrawRequest_frame n)
  exact h
@[simp] theorem State.withdrawRequest_picks (s : State) (n : LaneId) : (s.withdrawRequest n).picks = s.picks := by
  have h := congrArg State.picks (s.withdrawRequest_frame n)
  exact h
@[simp] theorem State.withdrawRequest_pending (s : State) (n : LaneId) : (s.withdrawRequest n).pending = s.pending := by
  have h := congrArg State.pending (s.withdrawRequest_frame n)
  exact h
@[simp] theorem State.withdrawRequest_lane (s : State) (n m : LaneId) : (s.withdrawRequest n).lane m = s.lane m := by
  have h := congrArg (fun t : State => t.lane m) (s.withdrawRequest_frame n)
  exact h
@[simp] theorem State.withdrawRequest_stream (s : State) (n : LaneId) (m : StreamId) : (s.withdrawRequest n).stream m = s.stream m := by
  have h := congrArg (fun t : State => t.stream m) (s.withdrawRequest_frame n)
  exact h
@[simp] theorem State.fadeRequest_time (s : State) (n : LaneId) : (s.fadeRequest n).time = s.time := by
  have h := congrArg State.time (s.fadeRequest_frame n)
  exact h
@[simp] theorem State.fadeRequest_station (s : State) (n : LaneId) : (s.fadeRequest n).station = s.station := by
  have h := congrArg State.station (s.fadeRequest_frame n)
  exact h
@[simp] theorem State.fadeRequest_mastA (s : State) (n : LaneId) : (s.fadeRequest n).mastA = s.mastA := by
  have h := congrArg State.mastA (s.fadeRequest_frame n)
  exact h
@[simp] theorem State.fadeRequest_mastB (s : State) (n : LaneId) : (s.fadeRequest n).mastB = s.mastB := by
  have h := congrArg State.mastB (s.fadeRequest_frame n)
  exact h
@[simp] theorem State.fadeRequest_lanes (s : State) (n : LaneId) : (s.fadeRequest n).lanes = s.lanes := by
  have h := congrArg State.lanes (s.fadeRequest_frame n)
  exact h
@[simp] theorem State.fadeRequest_fetcher (s : State) (n : LaneId) : (s.fadeRequest n).fetcher = s.fetcher := by
  have h := congrArg State.fetcher (s.fadeRequest_frame n)
  exact h
@[simp] theorem State.fadeRequest_router (s : State) (n : LaneId) : (s.fadeRequest n).router = s.router := by
  have h := congrArg State.router (s.fadeRequest_frame n)
  exact h
@[simp] theorem State.fadeRequest_streams (s : State) (n : LaneId) : (s.fadeRequest n).streams = s.streams := by
  have h := congrArg State.streams (s.fadeRequest_frame n)
  exact h
@[simp] theorem State.fadeRequest_arbiter (s : State) (n : LaneId) : (s.fadeRequest n).arbiter = s.arbiter := by
  have h := congrArg State.arbiter (s.fadeRequest_frame n)
  exact h
@[simp] theorem State.fadeRequest_link (s : State) (n : LaneId) : (s.fadeRequest n).link = s.link := by
  have h := congrArg State.link (s.fadeRequest_frame n)
  exact h
@[simp] theorem State.fadeRequest_status (s : State) (n : LaneId) : (s.fadeRequest n).status = s.status := by
  have h := congrArg State.status (s.fadeRequest_frame n)
  exact h
@[simp] theorem State.fadeRequest_output (s : State) (n : LaneId) : (s.fadeRequest n).output = s.output := by
  have h := congrArg State.output (s.fadeRequest_frame n)
  exact h
@[simp] theorem State.fadeRequest_picks (s : State) (n : LaneId) : (s.fadeRequest n).picks = s.picks := by
  have h := congrArg State.picks (s.fadeRequest_frame n)
  exact h
@[simp] theorem State.fadeRequest_pending (s : State) (n : LaneId) : (s.fadeRequest n).pending = s.pending := by
  have h := congrArg State.pending (s.fadeRequest_frame n)
  exact h
@[simp] theorem State.fadeRequest_lane (s : State) (n m : LaneId) : (s.fadeRequest n).lane m = s.lane m := by
  have h := congrArg (fun t : State => t.lane m) (s.fadeRequest_frame n)
  exact h
@[simp] theorem State.fadeRequest_stream (s : State) (n : LaneId) (m : StreamId) : (s.fadeRequest n).stream m = s.stream m := by
  have h := congrArg (fun t : State => t.stream m) (s.fadeRequest_frame n)
  exact h

/-! ### Entries to lane states -/

/-- Entry to SEEK changes lane n alone among the lanes, by `Lane.enterSeek` (R54). -/
theorem State.enterSeek_lane (s : State) (n m : LaneId) (p : TunePlan) :
    (s.enterSeek n p).lane m = if n = m then (s.lane n).enterSeek p s.time else s.lane m := by
  unfold State.enterSeek
  rw [State.raiseIf_lane, State.oweLane_lane, State.withdrawRequest_lane]
  exact s.setLane_lane n m _

/-! ### Final counters of the streams (R156) -/

theorem StreamWriter.oweFinalCounts_cases (w : StreamWriter) : w.oweFinalCounts = w ∨ w.oweFinalCounts = { w with owed := true } := by
  unfold StreamWriter.oweFinalCounts
  split
  · exact .inr rfl
  · exact .inl rfl

@[simp] theorem StreamWriter.oweFinalCounts_phase (w : StreamWriter) : w.oweFinalCounts.phase = w.phase := by
  rcases w.oweFinalCounts_cases with same | owes <;> simp [*]

@[simp] theorem StreamWriter.oweFinalCounts_counters (w : StreamWriter) : w.oweFinalCounts.counters = w.counters := by
  rcases w.oweFinalCounts_cases with same | owes <;> simp [*]

@[simp] theorem StreamWriter.oweFinalCounts_fifo (w : StreamWriter) : w.oweFinalCounts.fifo = w.fifo := by
  rcases w.oweFinalCounts_cases with same | owes <;> simp [*]

/-- Nothing but the streams changes. -/
theorem State.oweFinalCounts_frame (s : State) : { s.oweFinalCounts with streams := s.streams } = s := by
  unfold State.oweFinalCounts
  split <;> rfl

/-- In STOPPING each stream is looked at; in the other device states none is. -/
theorem State.oweFinalCounts_stream (s : State) (n : StreamId) :
    s.oweFinalCounts.stream n = if s.link.device = .stopping then (s.stream n).oweFinalCounts else s.stream n := by
  unfold State.oweFinalCounts
  cases device : s.link.device <;> simp [State.stream]

/-! ### Arbiter -/

/-- The stream chosen is one of those with a request waiting (R163). -/
theorem chooseSlot_mem (s : State) (ns : List StreamId) (n : StreamId) (h : chooseSlot s ns = some n) : n ∈ ns := by
  induction ns generalizing n with
  | nil => cases h
  | cons a as ih =>
    simp only [chooseSlot] at h
    split at h
    · cases h
      exact List.mem_cons_self
    · rename_i m hm
      split at h
      · cases h
        exact List.mem_cons_of_mem _ (ih _ hm)
      · cases h
        exact List.mem_cons_self

/-- A class-1 grant passes over the withdrawn requests and grants the first that has something to transfer (R159, R161). -/
theorem State.grantQueue_cases (s : State) (later queue : List Requester) (t : State) (h : s.grantQueue later queue = some t) :
    ∃ before r rest, queue = before ++ r :: rest ∧ (s.setQueue (rest ++ later)).grantRequest r = some t := by
  induction queue with
  | nil => cases h
  | cons a as ih =>
    simp only [State.grantQueue] at h
    split at h
    · rename_i u hu
      cases h
      exact ⟨[], a, as, rfl, hu⟩
    · obtain ⟨before, r, rest, rfl, hr⟩ := ih h
      exact ⟨a :: before, r, rest, rfl, hr⟩

/-- With no new request, all wait and none is left for later (R161). -/
@[simp] theorem Arbiter.now_settled (a : Arbiter) (wait : Bool) (h : a.fresh = 0) : a.now wait = a.queue := by
  simp [Arbiter.now, h]

@[simp] theorem Arbiter.later_settled (a : Arbiter) (wait : Bool) (h : a.fresh = 0) : a.later wait = [] := by
  simp [Arbiter.later, h]

@[simp] theorem State.slotsNow_settled (s : State) (wait : Bool) (h : s.arbiter.handedTo = none) : s.slotsNow wait = s.slotRequests := by
  simp [State.slotsNow, h]

/-- The requests the grant chooses among and those left for later are the Record Queue. -/
theorem Arbiter.now_later (a : Arbiter) (wait : Bool) : a.now wait ++ a.later wait = a.queue := by
  unfold Arbiter.now Arbiter.later
  split
  · simp
  · split <;> simp

/-- A grant among requests and streams is a class-1 grant, or, when every request is withdrawn, a slot write chosen (R161, R163). -/
theorem State.grantAmong_cases (s : State) (queue later : List Requester) (slots : List StreamId) (t : State)
    (h : s.grantAmong queue later slots = some t) :
    s.grantQueue later queue = some t ∨
    s.grantQueue later queue = none ∧ ∃ n, chooseSlot s slots = some n ∧ t = (s.setQueue later).grantSlot n := by
  unfold State.grantAmong at h
  split at h
  · rename_i u hu
    cases h
    exact .inl hu
  · rename_i hq
    refine .inr ⟨hq, ?_⟩
    unfold State.grantClass2 at h
    split at h
    · cases h
    · rename_i n hn
      cases h
      refine ⟨n, ?_, rfl⟩
      rw [← hn]
      clear hn hq
      induction slots with
      | nil => rfl
      | cons a as ih => simp only [chooseSlot, ih]; rfl

/-- A grant at a free port (R161): among the requests that are not left for later, else among those, else nothing is left to grant. -/
theorem State.grantWith_cases (s : State) (requestsWait slotWaits : Bool) :
    (∃ t, s.endRace.grantAmong (s.arbiter.now requestsWait) (s.arbiter.later requestsWait) (s.slotsNow slotWaits) = some t ∧
      s.grantWith requestsWait slotWaits = t) ∨
    (∃ t, s.endRace.grantAmong (s.arbiter.now requestsWait) (s.arbiter.later requestsWait) (s.slotsNow slotWaits) = none ∧
      s.endRace.grantAmong (s.arbiter.later requestsWait) [] s.slotRequests = some t ∧ s.grantWith requestsWait slotWaits = t) ∨
    s.grantWith requestsWait slotWaits = s.endRace.setQueue [] := by
  unfold State.grantWith
  cases first : s.endRace.grantAmong (s.arbiter.now requestsWait) (s.arbiter.later requestsWait) (s.slotsNow slotWaits) with
  | some granted => simp [first]
  | none =>
    cases second : s.endRace.grantAmong (s.arbiter.later requestsWait) [] s.slotRequests with
    | some granted => simp [first, second]
    | none => simp [first, second]

end Machine
end Sys2Proof
end

