-- ==== Sys2Proof/Tests/Slice0.lean ====
section
/-! SUPPORT. The model's own tests: the well-formedness checks, the worked examples of the spec (each test names its section), and for every
statement with hypotheses a concrete state that meets them (`witness_<statement>`). -/

namespace Sys2Proof.Tests

/- One test after another: all of them at once take more threads than a check is given memory for. -/
set_option Elab.async false

open Sys2Proof Sys2Proof.Machine

/-! ### Well-formedness -/

/-- R70: an uncorrectable packet has a corrected-byte count of 0. -/
theorem test_wellFormed_refuses_corrected_uncorrectable :
    (Instr.packetGate 0 (Vector.replicate 188 0) .a true 1).wellFormed = false ∧
    (Instr.packetGate 0 (Vector.replicate 188 0) .a true 0).wellFormed = true := by decide

/-- R168: a Control write is not ignored, an Identity write is; Attention bits 30 and 31 alone are. -/
theorem test_wellFormed_refuses_effective_write :
    (Instr.registerWriteIgnored 0x04#8 0#32).wellFormed = false ∧ (Instr.registerWriteIgnored 0x10#8 1#32).wellFormed = false ∧
    (Instr.registerWriteIgnored 0x00#8 5#32).wellFormed = true ∧ (Instr.registerWriteIgnored 0x10#8 0xC0000000#32).wellFormed = true := by
  decide

/-- The table gives no row bits: no word spells a command, and putting one in front changes nothing. -/
theorem test_no_word_spells_a_command : decodeTableWord 8 3 = none ∧ State.reset.withFetchWord 8 3 = State.reset := by
  exact ⟨rfl, rfl⟩

/-! ### Arithmetic (chapter 3) -/

/-- Section 3.2, the table of levels. -/
theorem test_level_table :
    [1, 2, 3, 5, 7, 8, 15, 255, 256, 300, 900, 1000, 32768, 40000, 65535].map level =
      [0, 8, 12, 18, 22, 24, 31, 63, 64, 65, 78, 79, 120, 121, 127] := by decide

/-- Section 3.2, the table of samples: S, E, trim, trimmed sample. -/
theorem test_sample_table :
    [(0, 0, 5), (0, 1200, -3), (40000, 0, -3), (40000, 0, 4), (300, 40000, 2), (40000, 300, -3), (40000, 900, -3), (1, 1, 0)].map
        (fun r : Nat × Nat × Int => trimmedSample (rawSample (BitVec.ofNat 16 r.1) (BitVec.ofNat 16 r.2.1)) r.2.2) =
      [5, 0, 124, 127, 2, 53, 40, 0] := by decide

/-- Sections 3.7 and R41: the reference sequence and the truncation toward zero. -/
theorem test_reference_sequence :
    accumulate 12800 53 3 = 12896 ∧ accumulate 12896 53 3 = 12980 ∧ accumulate 12980 40 3 = 12638 ∧
    accumulate 15423 60 6 = 15423 ∧ accumulate 15424 60 6 = 15423 := by decide

/-- Section 3.3, R36: B = 3, a run of hits from b = 0, then a clean report. -/
theorem test_blanking_run :
    blanking true 0 3 = (true, 1) ∧ blanking true 2 3 = (true, 3) ∧ blanking true 3 3 = (false, 4) ∧
    blanking false 5 3 = (false, 0) ∧ blanking true 255 15 = (false, 255) := by decide

/-! ### A running part with one lane -/

/-- Entry 0 of section 2.7. -/
def entry0 : ModeEntry := { carrier := .k8, period := 8704, tolerance := 2, matchCount := 4, missCount := 2 }

/-- Entry 3 of section 2.7. -/
def entry3 : ModeEntry := { carrier := .k8, period := 8706, tolerance := 4, matchCount := 3, missCount := 3 }

/-- The usable entries 0 and 3 of section 2.7. -/
def modes : ModeTable := ((Vector.replicate 8 none).set 0 (some entry0)).set 3 (some entry3)

/-- The plan of section 4.10. -/
def plan : TunePlan where
  centre := 578000
  bandwidth := 8
  mastPolicy := .autoA
  modePolicy := .auto
  lockThreshold := 40
  unlockThreshold := 34
  lockCount := 3
  fadeCount := 4
  recoverCount := 2
  holdLimit := 200
  smoothing := 3
  blankLimit := 2
  seekLimit := 5
  surveyInterval := 30
  dwell := 8
  margin := 4
  notify := { state := true, switch := false, seekTimeout := true }

/-- A lane under the plan in some phase, on mast A. -/
def laneIn (phase : LanePhase) (recognised : Option EntryId) (seeded : Bool) (qacc : Nat) (seek : Timer) : Lane :=
  { Lane.reset with
    phase := phase
    applied := some plan
    tap := { setting := some { centre := 578000, bandwidth := 8, mast := .a }, hit := false }
    recognizer := { Recognizer.cleared with recognised := recognised }
    tracker := { QualityTracker.cleared with seeded := seeded, qacc := qacc }
    seekTimer := seek }

def seekLane : Lane := laneIn .seek none false 0 (some 50000)
def trackLane : Lane := laneIn .track (some 0) false 0 (some 50000)
def lockLane : Lane := laneIn .lock (some 0) true 12800 none
def fadeLane : Lane := { laneIn .fade (some 0) true 7000 none with hold := 4 }

/-- A part in RUNNING with the two entries usable and thresholds 40, lane 3 as given. -/
def running (l : Lane) : State :=
  State.setLane
    { State.reset with
      time := 50000
      station := { StationSettings.reset with modes := modes, thresholdA := 40, thresholdB := 40, statusInterval := 50 }
      link := { LinkPort.reset with device := .running, run := true } } 3 l

/-- The same with a transfer of a kind on the port. -/
def onLink (s : State) (kind : TransferKind) : State :=
  { s with arbiter := { s.arbiter with port := some { kind := kind, address := 0x1000, size := 64, data := [], abandoned := false } } }

/-- The same in another device state. -/
def inDevice (d : DeviceState) (s : State) : State :=
  { s with link := { s.link with device := d } }

/-- A stream holding a buffer of capacity 4 with two slots written. -/
def buffer : HeldBuffer := { address := 0x2000, dataArea := 0x13F200000, capacity := 4, nextRecord := 0x2100, filled := 2, stamp := some 7 }

def slot : Slot := { lane := 3, mast := .a, uncorrectable := false, continuityBreak := false, stamp := 9, bytes := Vector.replicate 188 0 }

def openStream : StreamWriter :=
  { StreamWriter.reset with phase := .opened, position := .holding, current := some buffer, fifo := [slot], flushTimer := some 50000, priority := 2 }

/-- The running part with stream 6 as given. -/
def withStream (w : StreamWriter) : State := (running lockLane).setStream 6 w

/-- The state after a command, for tests on one field. -/
def after (c : Instr) (s : State) : State :=
  match exec c s with
  | .next t => t
  | .fault _ => s
  | .refused _ => s

/-! ### Worked examples -/

/-- Section 2.7: the periods 8705, 8708, 8708, (hit), 8709, 8704 from an empty search recognise entry 3. -/
theorem test_search_with_overlapping_windows :
    let step := fun (r : Recognizer) (p : Nat) => (r.search modes [0, 3] p).1
    let r3 := step (step (step Recognizer.cleared 8705) 8708) 8708
    r3 = { Recognizer.cleared with candidate := some 3, matchesHeld := 1 } ∧
    (step r3 8709).search modes [0, 3] 8704 = ({ Recognizer.cleared with recognised := some 3 }, .recognition) := by decide

/-- R16: the entries 4 (4K, 4000) and 5 (2K, 2600) of section 2.7 are invalid, 7 (4K, 4608) is valid and clamped to 1, 32, 1. -/
theorem test_mode_table_load :
    ({ enabled := true, carrierCode := 2, period := 4000, tolerance := 2, matchCount := 4, missCount := 2 } : RawModeEntry).isRejected = true ∧
    ({ enabled := true, carrierCode := 1, period := 2600, tolerance := 2, matchCount := 4, missCount := 2 } : RawModeEntry).isRejected = true ∧
    ({ enabled := true, carrierCode := 2, period := 4608, tolerance := 0, matchCount := 40, missCount := 0 } : RawModeEntry).inForce =
      some { carrier := .k4, period := 4608, tolerance := 1, matchCount := 32, missCount := 1 } := by decide

/-- Section 3.7, report 1: Qacc 12800 with s = 56 − 3 (trim −3) becomes 12896; here by the whole command. -/
theorem test_symbol_report_in_lock :
    let s := running lockLane
    let t := after (.symbolReport 3 8704 40000#16 300#16 false) { s with station := { s.station with trimA := -3 } }
    (t.lane 3).tracker.qacc = 12896 ∧ (t.lane 3).tracker.lastRaw = 56 ∧ (t.lane 3).phase = .lock := by decide +kernel

/-- Section 1.4, the wrap: a seek timer of 10 ms started at 2^48 − 4000 has the deadline 6000. -/
theorem test_deadline_wraps : deadline 281474976706656#48 10000 = 6000#48 := by decide

/-- Section 6.3: the edges of the band, and channels that meet only at an edge. -/
theorem test_band_and_overlap :
    outsideBand 178000 8 = false ∧ outsideBand 859000 7 = true ∧ channelsShare 586000 8 594000 8 = false ∧
    channelsShare 594000 8 596000 7 = true := by decide

/-- R51: QL 0 gives QL 1 and QU 0; QL 200 with QU 150 gives 127 and 126. -/
theorem test_threshold_clamps :
    (clampLock 0, clampUnlock (clampLock 0) 5) = (1, 0) ∧ (clampLock 200, clampUnlock (clampLock 200) 150) = (127, 126) := by decide

/-- Section 7.7, entries 3 and 4: base 260 with e = 3 is 256..263; base 8191 with e = 20 is every PID, lane bit 12 ignored. -/
theorem test_filter_entry_conversion :
    let block : Vector Byte 256 := ((((((((Vector.replicate 256 0).set 0 5).set 1 2).set 2 0x88).set 4 4).set 5 1).set 6 3).set 8 3).set 9 9
      |>.set 10 0x08 |>.set 11 0x10 |>.set 12 0xFF |>.set 13 0x1F |>.set 14 20
    filterEntryAt block 0 = some { lanes := 0x088#12, base := 256, exponent := 3, target := 2, dropErrored := false, checkContinuity := true } ∧
    filterEntryAt block 8 = some { lanes := 0x008#12, base := 0, exponent := 13, target := 9, dropErrored := true, checkContinuity := false } := by
  decide +kernel

/-- Section 7.7, entry 1: started at 5, then 6 in sequence, 6 again a repeat, 9 a break. -/
theorem test_continuity_outcomes :
    continuityOutcome none 5 = .started ∧ continuityOutcome (some 5) 6 = .inSequence ∧ continuityOutcome (some 6) 6 = .isRepeat ∧
    continuityOutcome (some 6) 9 = .isBreak ∧ continuityOutcome (some 15) 0 = .inSequence := by decide

/-- Section 9.6, steps 4 and 5: from rotation point 4 among 1, 4, 9 at priority 2 and 7 at priority 5 stream 9 is chosen; from 9, stream 1. -/
theorem test_slot_choice :
    let w2 := openStream
    let s := ((((running lockLane).setStream 1 w2).setStream 4 w2).setStream 9 w2).setStream 7 { w2 with priority := 5 }
    let at4 : State := { s with arbiter := { s.arbiter with rotation := 4 } }
    let at9 : State := { s with arbiter := { s.arbiter with rotation := 9 } }
    chooseSlot at4 at4.slotRequests = some 9 ∧ chooseSlot at9 [1, 4, 7] = some 1 := by decide +kernel

/-- Section 9.6, step 8: slot index 5 of the data area 0x1_3F20_0000 lies at 0x1_3F20_03C0. -/
theorem test_slot_address :
    let s := withStream { openStream with current := some { buffer with filled := 5, capacity := 8 } }
    (after .transferGrant s).arbiter.port.map Transfer.address = some 0x13F2003C0#64 := by decide +kernel

/-- Section 9.6, step 8: the error is counted and recorded against stream 6. -/
theorem test_slot_write_error :
    let t := after (.slotWriteComplete .error) (onLink (withStream { openStream with inFlight := some slot }) (.slotWrite 6))
    t.link.linkErrors = 1 ∧ t.link.lastFault = { kind := .writeError, requester := .stream 6, address := 0x1000, time := 50000 } ∧
    (t.stream 6).counters.droppedFault = 1 ∧ (t.stream 6).position = .closingBuffer := by decide +kernel

/-- R177: enabling a cause already set sends one message; a further raise sends none. -/
theorem test_interrupt_message :
    let s := (running lockLane).raise .plan
    s.output.messages = 0 ∧ (after (.noticeEnable 1) s).output.messages = 1 ∧
    ((after (.noticeEnable 1) s).raise .plan).output.messages = 1 := by decide +kernel

/-- Section 11.3: an Attention write of lane 0, stream 15, FILTER and STATUS-NOW; a Control write with RESET set. -/
theorem test_register_writes :
    registerWrite 0x10#8 0x38000001#32 = [.attentionLane 0, .attentionFilter, .attentionStream 15, .attentionStatusNow] ∧
    registerWrite 0x04#8 3#32 = [.softReset] ∧ registerWrite 0x08#8 0x12345678#32 = [.exchangeBaseLow 0x12345678#32] := by decide

/-- R181: the spans of the part's writes. -/
theorem test_write_spans :
    (laneRecordBytes Lane.reset none 1).length = 64 ∧ (stationRecordBytes State.reset 1).length = 128 ∧
    StreamWriter.reset.writeBackBytes.length = 48 ∧ SlotAnswer.reset.image.bytes.length = 16 ∧ slot.bytes192.length = 192 ∧
    (BufferClose.fieldBytes (badRecordClose 0 0) 0).length = 13 := by decide +kernel

/-- R168, 11.3: Control reads RUN 1 and state RUNNING; Identity reads 0x4B440001. -/
theorem test_register_reads :
    (running lockLane).readRegister 0x04#8 = some 0x00000201#32 ∧ (running lockLane).readRegister 0x00#8 = some 0x4B440001#32 := by decide +kernel

/-! ### Witnesses: the part as a machine, resets, errors -/

theorem witness_StepRunsFrontCommand : ({ State.reset with pending := [.runSet, .softReset] } : State).pending = .runSet :: [.softReset] := rfl

/-- In the reset state no event arises; on a busy port no grant does, and the completion of another transfer does not. -/
theorem witness_EventThatDoesNotAriseChangesNothing :
    (State.reset.arbiter.port = none ∧ ends (.laneSlotReadComplete .error) (.laneSlotRead 3) = true) ∧
    ends (.laneSlotReadComplete .error) (.slotWrite 3) = false ∧
    (State.reset.lane 0).seekTimer ≠ some State.reset.time ∧ (State.reset.lane 0).surveyTimer ≠ some State.reset.time ∧
    (State.reset.lane 0).applyWindow ≠ some State.reset.time ∧ (State.reset.stream 0).flushTimer ≠ some State.reset.time ∧
    State.reset.status.intervalTimer ≠ some State.reset.time ∧ (State.reset.lane 0).phase = .off ∧
    State.reset.survey.dwell = none ∧ State.reset.router.queue = [] ∧ State.reset.router.shadow = .none ∧
    (onLink State.reset (.slotWrite 3)).arbiter.port.isSome = true ∧ State.reset.link.device ≠ .stopping ∧ State.reset.pending = [] := by
  decide +kernel

/-- A lane slot read that a soft reset abandoned. -/
def abandoned : Transfer := { kind := .laneSlotRead 3, address := 0x2C0, size := 64, data := [], abandoned := true }

theorem witness_AbandonedTransferIsHandedToNobody :
    ({ State.reset with arbiter := { Arbiter.reset with port := some abandoned } } : State).arbiter.port = some abandoned ∧
    abandoned.abandoned = true ∧ ends (.laneSlotReadComplete .error) abandoned.kind = true := by decide +kernel

/-- The transfer that `onLink` puts on the port. -/
def moving (kind : TransferKind) : Transfer := { kind := kind, address := 0x1000, size := 64, data := [], abandoned := false }

theorem onLink_carries (s : State) (kind : TransferKind) : (onLink s kind).carries (moving kind) kind :=
  ⟨rfl, rfl, rfl⟩

theorem witness_LinkErrorIsRecorded :
    (onLink (running lockLane) (.laneSlotRead 3)).carries (moving (.laneSlotRead 3)) (moving (.laneSlotRead 3)).kind ∧
    ends (.laneSlotReadComplete .error) (.laneSlotRead 3) = true ∧ errorOf (.laneSlotReadComplete .error) = some .readError ∧
    errorOf .runSet = none ∧ exec .runSet State.reset = .next (after .runSet State.reset) :=
  ⟨onLink_carries _ _, rfl, rfl, rfl, rfl⟩

/-- STATUS-NOW alone in RUNNING is taken; with a lane item beside it, it waits. -/
theorem witness_SettlePlacesRequests :
    let now : State := { running lockLane with fetcher := { PlanFetcher.reset with pendingSet := { PendingSet.empty with statusNow := true } } }
    let beside : State := now.setPending { now.fetcher.pendingSet with lanes := (Vector.replicate 12 false).set 3 true }
    now.link.device = .running ∧ now.fetcher.item = none ∧ now.fetcher.pendingSet.statusNow = true ∧
    (∀ n : LaneId, now.fetcher.pendingSet.lanes[n] = false) ∧ now.fetcher.pendingSet.filter = false ∧
    (∀ n : StreamId, now.fetcher.pendingSet.streams[n] = false) ∧ now.settle.status.stationOwed = true ∧
    now.settle.arbiter.queue.head? = some (.status .station) ∧ now.settle.arbiter.fresh = 13 ∧
    beside.fetcher.pendingSet.lanes[(3 : LaneId)] = true ∧ beside.settle.status.stationOwed = false := by decide +kernel

/-! ### Witnesses: masts and the Station Timer -/

theorem witness_ImpulseEventMarksTaps :
    (running lockLane).link.device = .running ∧ 0 < (running lockLane).station.threshold .a ∧
    (running lockLane).station.threshold .a < (41 : Fin 257).val ∧ ((running lockLane).front .a).above = false ∧
    ((after (.impulseEvent .a 41) (running lockLane)).lane 3).tap.hit = true := by decide +kernel

/-- Each way of being no event, and a fall on each mast, at the threshold itself. -/
theorem witness_ExcursionBoundsEvents :
    (State.reset.link.device ≠ .running ∧ State.reset.link.device ≠ .stopping) ∧ State.reset.station.threshold .a = 0 ∧
    (40 : Fin 257).val ≤ (running lockLane).station.threshold .a ∧
    ((after (.impulseEvent .a 41) (running lockLane)).front .a).above = true ∧
    (40 : Fin 257).val ≤ (running lockLane).station.thresholdA ∧ (40 : Fin 257).val ≤ (running lockLane).station.thresholdB := by
  decide +kernel

theorem witness_StationTimerCounts :
    Instr.runSet ≠ .stationTimerTick ∧ Instr.runSet ≠ .powerOnReset ∧ exec .runSet State.reset = .next (after .runSet State.reset) ∧
    (after .stationTimerTick { State.reset with time := 281474976710655 }).time = 0 := by
  exact ⟨by decide, by decide, rfl, by decide +kernel⟩

/-! ### Witnesses: recognition and quality -/

theorem witness_LevelFunction : (1 ≤ 5 ∧ 5 ≤ 65535 ∧ 2 ^ 2 ≤ 5 ∧ 5 < 2 ^ (2 + 1)) ∧ (2 ^ 15 ≤ 65535 ∧ 65535 < 2 ^ (15 + 1)) := by decide

theorem witness_RawSample :
    (1#16 ≠ 0 ∧ 2#16 ≠ 0) ∧ level 1 ≤ level 1 ∧ level (1#16).toNat < level (2#16).toNat := by decide

theorem witness_AccumulatorMovesAndRests :
    (12800 ≤ 32512 ∧ 12800 ≤ 256 * 53 ∧ 256 * 40 ≤ 12800) ∧
    accumulate (QualityTracker.mk true 15297 0 0).qacc 60 6 = (QualityTracker.mk true 15297 0 0).qacc ∧
    ((0 : Nat) : Int) + -3 < 0 ∧ (0 ≤ ((124 : Nat) : Int) + 3 ∧ ((124 : Nat) : Int) + 3 ≤ 127) ∧ (127 : Int) < ((127 : Nat) : Int) + 4 ∧
    QualityTracker.cleared.seeded = false ∧ (QualityTracker.mk true 15297 0 0).seeded = true := by decide

/-- A part whose lane 3 is in LOCK has its quality figures in range, and steps. -/
theorem witness_QualityKeptInRange : QualityInRange (running lockLane) ∧ step (running lockLane) = .next (running lockLane) := by
  have lanes : ∀ n : LaneId, (running lockLane).lane n = if n = 3 then lockLane else Lane.reset := by decide +kernel
  have means : ∀ n : LaneId, (running lockLane).survey.lastMean[n] = none := by decide +kernel
  have figures : ∀ l ∈ [lockLane, Lane.reset], l.tracker.qacc ≤ 32512 ∧ l.tracker.lastRaw ≤ 127 ∧ l.tracker.hits ≤ 255 ∧ l.switchOrder = none := by
    decide
  refine ⟨⟨fun n => ?_, by intro dwell running; cases running⟩, rfl⟩
  have held := figures ((running lockLane).lane n) (by rw [lanes n]; split <;> simp)
  rw [means n]
  exact ⟨held.1, held.2.1, held.2.2.1, by rw [held.2.2.2]; simp, by simp⟩

/-- The recognizer with candidate 0 and three matches held. -/
def searching : Recognizer := { Recognizer.cleared with candidate := some 0, matchesHeld := 3, missesHeld := 1 }

theorem witness_CandidateSearch :
    (Recognizer.cleared.candidate = none ∧ (∀ m ∈ ([0, 3] : List EntryId), entryContains modes 0 m = false)) ∧
    lowestMatch modes [0, 3] 8705 = some 0 ∧ searching.candidate = some 0 ∧ modes[(0 : EntryId)] = some entry0 ∧
    entry0.contains 8704 = true ∧ entry0.matchCount ≤ searching.matchesHeld + 1 ∧
    ({ searching with matchesHeld := 1 } : Recognizer).matchesHeld + 1 < entry0.matchCount ∧
    entry0.contains 8708 = false ∧ entry0.missCount ≤ searching.missesHeld + 1 ∧
    ({ searching with missesHeld := 0 } : Recognizer).missesHeld + 1 < entry0.missCount := by decide

/-- The allowed sets and the lowest matching entry; a candidate dropped for another, and for none. -/
theorem witness_CandidateSearch_forms :
    allowedSet modes .auto = [0, 3] ∧ allowedSet modes (.fixed 3) = [3] ∧ allowedSet modes (.fixed 1) = [] ∧
    lowestMatch modes [0, 3] 8708 = some 3 ∧ lowestMatch modes [0, 3] 8701 = none ∧
    searching.search modes [0, 3] 8708 = ({ searching with candidate := some 3, matchesHeld := 1, missesHeld := 0 }, .quiet) ∧
    searching.search modes [0, 3] 8701 = (Recognizer.cleared, .quiet) := by decide

/-- An excused report in SEEK, TRACK and LOCK, and in FADE short of the hold limit. -/
theorem witness_ExcusedReportIsPassedOver :
    let hit := fun l : Lane => running { l with tap := { l.tap with hit := true } }
    (∀ l ∈ [seekLane, trackLane, lockLane, fadeLane], ((hit l).lane 3).phase ≠ .off ∧ ((hit l).lane 3).applied = some plan ∧
      ((hit l).lane 3).tap.hit = true ∧ ((hit l).lane 3).tracker.hits < plan.blankLimit ∧ ((hit l).lane 3).switchOrder = none) ∧
    ((hit fadeLane).lane 3).phase = .fade ∧ ((hit { fadeLane with hold := 198 }).lane 3).hold + 1 < plan.holdLimit := by decide +kernel

theorem witness_RecognitionEntersTrack :
    let s := running { seekLane with recognizer := searching }
    (s.lane 3).phase = .seek ∧ (s.lane 3).applied = some plan ∧ (s.lane 3).tap.hit = false ∧
    (s.lane 3).recognizer.candidate = some 0 ∧ s.station.modes[(0 : EntryId)] = some entry0 ∧
    entry0.contains (8704 : Fin 16384).val = true ∧ entry0.matchCount ≤ (s.lane 3).recognizer.matchesHeld + 1 ∧
    ((after (.symbolReport 3 8704 0 0 false) s).lane 3).phase = .track := by decide +kernel

/-- A used sample without a hit, in the window: raw sample, accumulator. -/
def clean (raw q : Nat) : UsedSample := { raw := raw, qacc := q, losses := 0, hits := 0 }

/-- A used sample of a lane of the running part: signal power S, error power E, no trim; with a hit or none, in the window or not. -/
theorem used_running (l : Lane) (period : Fin 16384) (signal error : BitVec 16) (u : UsedSample) (h₁ : l.applied = some plan)
    (h₂ : l.tap.setting = some { centre := 578000, bandwidth := 8, mast := .a })
    (h₃ : l.recognizer.recognised = some 0) (h₄ : u.raw = rawSample signal error)
    (h₅ : l.tap.hit = false ∧ u.hits = 0 ∨ l.tap.hit = true ∧ plan.blankLimit ≤ l.tracker.hits ∧ u.hits = min 255 (l.tracker.hits + 1))
    (h₆ : entry0.contains period.val = true ∧ u.losses = 0 ∨
      entry0.contains period.val = false ∧ l.recognizer.lossCount + 1 < entry0.missCount ∧ u.losses = l.recognizer.lossCount + 1)
    (h₇ : u.qacc = if l.tracker.seeded = true then accumulate l.tracker.qacc (trimmedSample u.raw 0) 3 else 256 * trimmedSample u.raw 0) :
    UsedReport (running l) 3 plan period signal error u := by
  have lane : (running l).lane 3 = l := rfl
  refine ⟨?_, h₄, _, 0, entry0, by rw [lane, h₂], by rw [lane, h₃], rfl, ?_, ?_⟩
  · unfold TakenReport
    rw [lane]
    exact ⟨h₁, h₅⟩
  · rw [lane]
    exact h₆
  · rw [lane]
    exact h₇

/-- The same for a report without a hit, in the window. -/
theorem clean_running (l : Lane) (signal error : BitVec 16) (raw q : Nat) (h₁ : l.applied = some plan)
    (h₂ : l.tap = { setting := some { centre := 578000, bandwidth := 8, mast := .a }, hit := false })
    (h₃ : l.recognizer.recognised = some 0) (h₄ : raw = rawSample signal error)
    (h₅ : q = if l.tracker.seeded = true then accumulate l.tracker.qacc (trimmedSample raw 0) 3 else 256 * trimmedSample raw 0) :
    UsedReport (running l) 3 plan 8704 signal error (clean raw q) :=
  used_running l 8704 signal error (clean raw q) h₁ (by rw [h₂]) h₃ h₄ (.inl ⟨by rw [h₂], rfl⟩) (.inl ⟨by decide, rfl⟩) h₅

/-- An excused report of a lane of the running part. -/
theorem excused_running (l : Lane) (h₁ : l.applied = some plan) (h₂ : l.tap.hit = true) (h₃ : l.tracker.hits < plan.blankLimit) :
    ExcusedReport (running l) 3 plan :=
  ⟨h₁, h₂, h₃, by decide⟩

/-- SEEK without a recognition: a report that forms candidate 0, a used hit report that misses it. -/
theorem witness_RecognitionEntersTrack_search :
    let hit := { seekLane with
      tap := { seekLane.tap with hit := true }
      tracker := { seekLane.tracker with hits := 2 }
      recognizer := { searching with missesHeld := 0 } }
    (TakenReport (running seekLane) 3 plan 0 ∧ seekLane.phase = .seek ∧ seekLane.pendingPlan = none ∧
      seekLane.recognizer.search modes (allowedSet modes plan.modePolicy) 8704 =
        ({ Recognizer.cleared with candidate := some 0, matchesHeld := 1 }, .quiet)) ∧
    (TakenReport (running hit) 3 plan 3 ∧ hit.recognizer.search modes (allowedSet modes plan.modePolicy) 8720 = (searching, .quiet)) ∧
    ((after (.symbolReport 3 8720 0 0 true) (running hit)).lane 3).tracker.hits = 3 :=
  ⟨⟨⟨rfl, .inl ⟨rfl, rfl⟩⟩, rfl, rfl, by decide⟩, ⟨⟨rfl, .inr ⟨rfl, by decide, by decide⟩⟩, by decide⟩, by decide +kernel⟩

/-- TRACK: a good first sample seeds and counts 1; the third good one in a row enters LOCK; a poor one counts 0. -/
theorem witness_RecognitionEntersTrack_track :
    (trackLane.phase = .track ∧ UsedReport (running trackLane) 3 plan 8704 40000 300 (clean 56 14336) ∧ 40 ≤ (clean 56 14336).qi ∧
      trackLane.lockIn + 1 < plan.lockCount) ∧
    (({ trackLane with lockIn := 2 } : Lane).lockIn + 1 = plan.lockCount ∧
      UsedReport (running { trackLane with lockIn := 2 }) 3 plan 8704 40000 300 (clean 56 14336)) ∧
    (UsedReport (running trackLane) 3 plan 8704 0 0 (clean 0 0) ∧ ¬ 40 ≤ (clean 0 0).qi) ∧
    ((after (.symbolReport 3 8704 40000 300 false) (running { trackLane with lockIn := 2 })).lane 3).phase = .lock :=
  ⟨⟨rfl, clean_running _ _ _ _ _ rfl rfl rfl (by decide) (by decide), by decide⟩,
    ⟨rfl, clean_running _ _ _ _ _ rfl rfl rfl (by decide) (by decide)⟩,
    ⟨clean_running _ _ _ _ _ rfl rfl rfl (by decide) (by decide), by decide⟩, by decide +kernel⟩

/-- A used hit report with b at B, whose period lies outside the window short of a mode loss: b and the loss count go up, the sample counts. -/
theorem witness_UsedReportInLockMovesQuality_hit :
    let l := { lockLane with tap := { lockLane.tap with hit := true }, tracker := { lockLane.tracker with hits := 2 } }
    UsedReport (running l) 3 plan 8720 40000 300 { raw := 56, qacc := 12992, losses := 1, hits := 3 } ∧
    (UsedSample.qi { raw := 56, qacc := 12992, losses := 1, hits := 3 } = 51 ∧ 0 < plan.fadeCount) ∧
    ((after (.symbolReport 3 8720 40000 300 false) (running l)).lane 3).tracker.qacc = 12992 := by
  refine ⟨used_running _ _ _ _ _ rfl rfl rfl (by decide) ?_ ?_ (by decide), by decide, by decide +kernel⟩
  · exact .inr (by decide)
  · exact .inr (by decide)

/-- Both sides of the fade condition: a good sample, and a poor one whose QI is below QU while the fade count stays short of CF. -/
theorem witness_UsedReportInLockMovesQuality :
    let s := running lockLane
    (s.lane 3).phase = .lock ∧ (s.lane 3).applied = some plan ∧ (s.lane 3).tap.hit = false ∧
    (s.lane 3).tap.setting = some { centre := 578000, bandwidth := 8, mast := .a } ∧ (s.lane 3).tracker.seeded = true ∧
    (s.lane 3).switchOrder = none ∧ (s.lane 3).recognizer.recognised = some 0 ∧ s.station.modes[(0 : EntryId)] = some entry0 ∧
    entry0.contains (8704 : Fin 16384).val = true ∧ ¬ (accumulate 12800 56 3 + 128) / 256 < plan.unlockThreshold ∧
    (accumulate 8000 0 3 + 128) / 256 < plan.unlockThreshold ∧ (s.lane 3).fadeRun + 1 < plan.fadeCount ∧ 0 < plan.fadeCount := by
  decide +kernel

/-- LOCK to FADE at CF, with a poor sample; FADE with a good sample, short of CR and at CR. -/
theorem witness_UsedReportInLockMovesQuality_fade :
    let poor := { lockLane with tracker := { QualityTracker.cleared with seeded := true, qacc := 7000 }, fadeRun := 3 }
    let good := { fadeLane with tracker := { QualityTracker.cleared with seeded := true, qacc := 12800 } }
    (poor.phase = .lock ∧ UsedReport (running poor) 3 plan 8704 0 0 (clean 0 6125) ∧ (clean 0 6125).qi < plan.unlockThreshold ∧
      plan.fadeCount = poor.fadeRun + 1) ∧
    (good.phase = .fade ∧ UsedReport (running good) 3 plan 8704 40000 300 (clean 56 12992) ∧ plan.lockThreshold ≤ (clean 56 12992).qi ∧
      good.recoverRun + 1 < plan.recoverCount ∧ good.hold + 1 < plan.holdLimit) ∧
    (UsedReport (running { good with recoverRun := 1 }) 3 plan 8704 40000 300 (clean 56 12992) ∧
      plan.recoverCount = ({ good with recoverRun := 1 } : Lane).recoverRun + 1) ∧
    ((after (.symbolReport 3 8704 0 0 false) (running poor)).lane 3).phase = .fade ∧
    (after (.symbolReport 3 8704 0 0 false) (running poor)).survey.dwell.map Dwell.cls = some .fade ∧
    ((after (.symbolReport 3 8704 40000 300 false) (running { good with recoverRun := 1 })).lane 3).phase = .lock := by
  refine ⟨⟨rfl, clean_running _ _ _ _ _ rfl rfl rfl (by decide) (by decide), by decide⟩,
    ⟨rfl, clean_running _ _ _ _ _ rfl rfl rfl (by decide) (by decide), by decide⟩,
    ⟨clean_running _ _ _ _ _ rfl rfl rfl (by decide) (by decide), rfl⟩, ?fade, ?request, ?lock⟩ <;> decide +kernel

/-- A used sample that does not bring a lane in FADE to its hold limit without a recovery has a state that it leaves. -/
theorem stays_some (s : State) (n : LaneId) (p : TunePlan) (u : UsedSample)
    (h : (s.lane n).phase = .lock ∨ (s.lane n).phase = .fade ∧
      (p.recoverCount ≤ (if p.lockThreshold ≤ u.qi then (s.lane n).recoverRun + 1 else 0) ∨ (s.lane n).hold + 1 < p.holdLimit)) :
    ∃ v, UsedReportStays s n p u v := by
  obtain lock | ⟨fade, short⟩ := h
  · obtain below | reached := Nat.lt_or_ge (if u.qi < p.unlockThreshold then (s.lane n).fadeRun + 1 else 0) p.fadeCount
    · exact ⟨_, .inl ⟨lock, _, rfl, .inl ⟨below, rfl⟩⟩⟩
    · exact ⟨_, .inl ⟨lock, _, rfl, .inr ⟨reached, _, rfl, rfl⟩⟩⟩
  · by_cases reached : p.recoverCount ≤ (if p.lockThreshold ≤ u.qi then (s.lane n).recoverRun + 1 else 0)
    · exact ⟨_, .inr ⟨fade, _, rfl, .inr ⟨reached, rfl⟩⟩⟩
    · exact ⟨_, .inr ⟨fade, _, rfl, .inl ⟨Nat.lt_of_not_le reached, short.resolve_left reached, rfl⟩⟩⟩

/-- The four cases with a frame-start and no plan pending: LOCK below CF and at CF, FADE below CR and at CR. -/
theorem witness_UsedReportInLockMovesQuality_stays :
    let poor := { lockLane with tracker := { QualityTracker.cleared with seeded := true, qacc := 7000 }, fadeRun := 3 }
    let good := { fadeLane with tracker := { QualityTracker.cleared with seeded := true, qacc := 12800 } }
    (∃ v, UsedReportStays (running lockLane) 3 plan (clean 56 12992) v) ∧ (∃ v, UsedReportStays (running poor) 3 plan (clean 0 6125) v) ∧
    (∃ v, UsedReportStays (running good) 3 plan (clean 56 12992) v) ∧
    (∃ v, UsedReportStays (running { good with recoverRun := 1, hold := 199 }) 3 plan (clean 56 12992) v) ∧
    (∀ l ∈ [lockLane, poor, good], l.pendingPlan = none ∧ l.switchOrder = none) ∧
    ((after (.symbolReport 3 8704 0 0 true) (running poor)).lane 3).phase = .fade :=
  ⟨stays_some _ _ _ _ (.inl rfl), stays_some _ _ _ _ (.inl rfl), stays_some _ _ _ _ (.inr (by decide +kernel)),
    stays_some _ _ _ _ (.inr (by decide +kernel)), by decide +kernel, by decide +kernel⟩

/-- A mode loss in TRACK, LOCK and FADE. -/
theorem witness_ModeLossEntersSeek :
    let losing := fun l : Lane => running { l with recognizer := { Recognizer.cleared with recognised := some 0, lossCount := 1 } }
    (∀ l ∈ [trackLane, lockLane, fadeLane],
      (((losing l).lane 3).phase = .track ∨ ((losing l).lane 3).phase = .lock ∨ ((losing l).lane 3).phase = .fade) ∧
      TakenReport (losing l) 3 plan 0 ∧ ((losing l).lane 3).pendingPlan = none ∧
      ((losing l).lane 3).recognizer.recognised = some 0 ∧ entry0.missCount ≤ ((losing l).lane 3).recognizer.lossCount + 1 ∧
      ((after (.symbolReport 3 8720 0 0 true) (losing l)).lane 3).phase = .seek) ∧
    modes[(0 : EntryId)] = some entry0 ∧ entry0.contains (8720 : Fin 16384).val = false := by
  unfold TakenReport
  decide +kernel

/-- A mode loss on a used hit report, b being at B. -/
theorem witness_ModeLossEntersSeek_hit :
    let l := { lockLane with
      tap := { lockLane.tap with hit := true }
      tracker := { lockLane.tracker with hits := 2 }
      recognizer := { Recognizer.cleared with recognised := some 0, lossCount := 1 } }
    TakenReport (running l) 3 plan 3 ∧ entry0.missCount ≤ l.recognizer.lossCount + 1 ∧
    ((after (.symbolReport 3 8720 0 0 false) (running l)).lane 3).phase = .seek := by
  unfold TakenReport
  decide +kernel

/-- The hold limit: 199 reports held and H = 200; a used report that does not recover, and an excused one. -/
theorem witness_ModeLossEntersSeek_hold :
    let held := { fadeLane with hold := 199 }
    let hit := { held with tap := { held.tap with hit := true } }
    held.phase = .fade ∧ held.pendingPlan = none ∧ plan.holdLimit = held.hold + 1 ∧
    UsedReport (running held) 3 plan 8704 0 0 (clean 0 6125) ∧ ¬ plan.lockThreshold ≤ (clean 0 6125).qi ∧ 0 < plan.recoverCount ∧
    ExcusedReport (running hit) 3 plan ∧
    ((after (.symbolReport 3 8704 0 0 false) (running held)).lane 3).phase = .seek ∧
    ((after (.symbolReport 3 8704 0 0 false) (running hit)).lane 3).phase = .seek := by
  refine ⟨rfl, rfl, rfl, clean_running _ _ _ _ _ rfl rfl rfl (by decide) (by decide), by decide, by decide,
    excused_running _ rfl rfl (by decide), ?used, ?excused⟩ <;> decide +kernel

/-! ### Witnesses: timers, plans, the gate -/

theorem witness_SeekTimerExpiryReentersSeek :
    let s := running seekLane
    let track := running trackLane
    (s.lane 3).phase = .seek ∧ (s.lane 3).applied = some plan ∧ (s.lane 3).seekTimer = some s.time ∧ s.hasRequest 3 = false ∧
    (track.lane 3).phase = .track ∧ (track.lane 3).seekTimer = some track.time ∧ track.hasRequest 3 = false ∧
    ((after (.seekTimerExpiry 3) s).lane 3).activeMast = .b ∧ ((after (.seekTimerExpiry 3) s).lane 3).seekTimer = some 100000 ∧
    ((after (.seekTimerExpiry 3) track).lane 3).phase = .seek := by
  decide +kernel

/-- The running part with a survey queue and a dwell of lane 5 of a class, lane 5 being in LOCK. -/
def surveying (l : Lane) (queue : List SurveyRequest) (cls : Option SurveyClass) : State :=
  { (running l).setLane 5 lockLane with survey := { SurveyUnit.reset with
      queue := queue
      dwell := cls.map fun c => { lane := 5, cls := c, mast := .b, length := 8, settling := 0, sampled := 0, sum := 0, count := 0, hits := 0 } } }

theorem surveying_settled (l : Lane) (queue : List SurveyRequest) (cls : Option SurveyClass)
    (h₁ : cls = none → ∀ r ∈ queue, ((surveying l queue cls).lane r.lane).switchOrder.isSome = true)
    (h₂ : ∀ r ∈ queue, r.cls ≠ .fade) : SurveySettled (surveying l queue cls) := by
  refine ⟨fun h => h₁ ?_, fun d _ _ r hr hf => absurd hf (h₂ r hr)⟩
  cases cls with
  | none => rfl
  | some c => cases h

/-- The timer is due while lane 5's dwell runs, while the lane has a switch order, and with neither. -/
theorem witness_SurveyIntervalExpiryFilesRequest :
    let due := { lockLane with surveyTimer := some 50000 }
    let busy := surveying due [] (some .lock)
    let waiting := surveying { due with switchOrder := some 57 } [] none
    let idle := surveying due [] none
    (due.phase = .lock ∧ due.applied = some plan ∧ plan.mastPolicy = .autoA ∧ due.surveyTimer = some (50000 : Time)) ∧
    (busy.hasRequest 3 = false ∧ SurveySettled busy ∧ busy.survey.dwell.isSome = true ∧
      (after (.surveyIntervalExpiry 3) busy).survey.queue = [{ lane := 3, cls := .lock }]) ∧
    (waiting.hasRequest 3 = false ∧ SurveySettled waiting ∧ (waiting.lane 3).switchOrder.isSome = true ∧
      (after (.surveyIntervalExpiry 3) waiting).survey.queue = [{ lane := 3, cls := .lock }]) ∧
    (idle.hasRequest 3 = false ∧ SurveySettled idle ∧ idle.survey.dwell = none ∧ (idle.lane 3).switchOrder = none ∧
      (after (.surveyIntervalExpiry 3) idle).survey.dwell.map Dwell.mast = some .b) := by
  refine ⟨by decide, ⟨by decide +kernel, surveying_settled _ _ _ (by decide) (by decide), rfl, by decide +kernel⟩,
    ⟨by decide +kernel, surveying_settled _ _ _ (by decide) (by decide), rfl, by decide +kernel⟩,
    ⟨by decide +kernel, surveying_settled _ _ _ (by decide) (by decide), rfl, rfl, by decide +kernel⟩⟩

/-- The rows of an entry-to-FADE request: the lane's own dwell; another's FADE-class one, and one that the lane's switch order keeps from being
preempted, with the lane's request waiting; a preemption; no dwell, with and without a switch order. -/
theorem witness_SurveyIntervalExpiryFilesRequest_fade :
    let ordered := { lockLane with switchOrder := some 57 }
    let mine : List SurveyRequest := [{ lane := 3, cls := .lock }]
    ((surveying lockLane [] (some .lock)).survey.dwell.map Dwell.lane = some 5 ∧ SurveySettled (surveying lockLane [] (some .lock)) ∧
      ((surveying lockLane [] (some .lock)).fadeRequest 5).survey.dwell.map Dwell.cls = some .fade) ∧
    (SurveySettled (surveying lockLane mine (some .fade)) ∧
      ((surveying lockLane mine (some .fade)).fadeRequest 3).survey.queue = [{ lane := 3, cls := .fade }]) ∧
    (SurveySettled (surveying ordered mine (some .lock)) ∧
      ((surveying ordered mine (some .lock)).fadeRequest 3).survey.queue = [{ lane := 3, cls := .fade }]) ∧
    (SurveySettled (surveying lockLane mine (some .lock)) ∧ (surveying lockLane mine (some .lock)).surveyed.Nodup ∧
      ((surveying lockLane mine (some .lock)).fadeRequest 3).survey.queue = [{ lane := 5, cls := .lock }] ∧
      ((surveying lockLane mine (some .lock)).fadeRequest 3).survey.dwell.map Dwell.lane = some 3) ∧
    (SurveySettled (surveying ordered [] none) ∧
      ((surveying ordered [] none).fadeRequest 3).survey.queue = [{ lane := 3, cls := .fade }]) ∧
    (SurveySettled (surveying lockLane [] none) ∧
      ((surveying lockLane [] none).fadeRequest 3).survey.dwell.map Dwell.lane = some 3) := by
  refine ⟨⟨rfl, surveying_settled _ _ _ (by decide) (by decide), by decide +kernel⟩,
    ⟨surveying_settled _ _ _ (by decide) (by decide), by decide +kernel⟩, ⟨surveying_settled _ _ _ (by decide) (by decide), by decide +kernel⟩,
    ⟨surveying_settled _ _ _ (by decide) (by decide), by decide, by decide +kernel, by decide +kernel⟩,
    ⟨surveying_settled _ _ _ (by decide) (by decide), by decide +kernel⟩, ⟨surveying_settled _ _ _ (by decide) (by decide), by decide +kernel⟩⟩

/-- The expiry with the lane's own request waiting. -/
theorem witness_SurveyIntervalExpiryFilesRequest_pending :
    let s := surveying { lockLane with surveyTimer := some 50000 } [{ lane := 3, cls := .lock }] (some .lock)
    (s.lane 3).surveyTimer = some s.time ∧ s.hasRequest 3 = true ∧
    (after (.surveyIntervalExpiry 3) s).survey.queue = [{ lane := 3, cls := .lock }] := by decide +kernel

/-- A withdrawal: without a request; of a waiting request, which leaves the other lane's dwell; of a running dwell, the tap going to the lane that
waits, its request taken from the queue. -/
theorem witness_ModeLossEntersSeek_withdrawal :
    let s := surveying lockLane [{ lane := 3, cls := .lock }] (some .lock)
    let free := surveying lockLane [] none
    let cut := s.withdrawRequest 5
    ((3 : LaneId) ∉ free.surveyed ∧ free.withdrawRequest 3 = free) ∧
    ((3 : LaneId) ∈ s.surveyed ∧ s.hasRequest 3 = true ∧ (s.withdrawRequest 3).survey.queue = [] ∧
      (s.withdrawRequest 3).survey.dwell = s.survey.dwell) ∧
    (s.survey.dwell.map Dwell.lane = some 5 ∧ cut.survey.queue = [] ∧ cut.survey.dwell.map Dwell.lane = some 3 ∧
      cut.survey.tap.setting.map TapSetting.mast = some .b) := by decide +kernel

/-- A lane in LOCK whose window is due, with a plan pending. -/
def pendingLane (p : AcceptedPlan) : Lane := { lockLane with pendingPlan := some p, applyWindow := some 50000 }

theorem witness_ApplyWindowExpiryTakesPlan :
    let s := fun p => running (pendingLane p)
    let stop := AcceptedPlan.stop 9 plan.notify
    let tune := AcceptedPlan.tune 9 { plan with margin := 8 } 0
    ((s stop).lane 3).phase = .lock ∧ ((s stop).lane 3).applied = some plan ∧ ((s stop).lane 3).applyWindow = some (s stop).time ∧
    ((s stop).lane 3).pendingPlan = some stop ∧ ((s tune).lane 3).pendingPlan = some tune ∧
    ((after (.applyWindowExpiry 3) (s stop)).lane 3).phase = .off ∧
    ((after (.applyWindowExpiry 3) (s tune)).lane 3).applied = some { plan with margin := 8 } := by decide +kernel

/-- A retune at the window's end; a frame-start report, here excused; a mode loss with the plan pending. -/
theorem witness_ApplyWindowExpiryTakesPlan_retune :
    let retune := AcceptedPlan.tune 9 { plan with centre := 586000, mastPolicy := .mastB } 0
    let hit := running { pendingLane retune with tap := { lockLane.tap with hit := true } }
    let losing := running { pendingLane retune with recognizer := { Recognizer.cleared with recognised := some 0, lossCount := 1 } }
    (((running (pendingLane retune)).lane 3).pendingPlan = some retune ∧
      isRetune modes .a plan { plan with centre := 586000, mastPolicy := .mastB } = true) ∧
    (ExcusedReport hit 3 plan ∧ (hit.lane 3).phase = .lock ∧ (hit.lane 3).switchOrder = none ∧ (hit.lane 3).pendingPlan = some retune) ∧
    ((losing.lane 3).tap.hit = false ∧ (losing.lane 3).recognizer.recognised = some 0 ∧ entry0.contains (8720 : Fin 16384).val = false ∧
      entry0.missCount ≤ (losing.lane 3).recognizer.lossCount + 1 ∧ (losing.lane 3).pendingPlan = some retune) ∧
    ((after (.applyWindowExpiry 3) (running (pendingLane retune))).lane 3).activeMast = .b ∧
    ((after (.symbolReport 3 8704 0 0 true) hit).lane 3).appliedTag = 9 ∧
    ((after (.symbolReport 3 8720 0 0 false) losing).lane 3).appliedTag = 9 := by
  refine ⟨⟨rfl, by decide⟩, ⟨excused_running _ rfl rfl (by decide), rfl, rfl, rfl⟩, ?losing, ?expired, ?framed, ?lost⟩ <;> decide +kernel

/-- Every lane in OFF, and every lane with an applied plan, has a take of any plan. -/
theorem takes_some (s : State) (n : LaneId) (plan : AcceptedPlan) (h : (s.lane n).phase = .off ∨ (s.lane n).applied.isSome = true) :
    ∃ t, Takes s n plan t := by
  unfold Takes
  cases plan with
  | stop tag notify => exact ⟨_, rfl⟩
  | tune tag p adjusted =>
    by_cases off : (s.lane n).phase = .off
    · exact ⟨_, fun _ => rfl, fun _ on => absurd off on⟩
    · obtain ⟨old, applied⟩ := Option.isSome_iff_exists.1 (h.resolve_left off)
      by_cases new : isRetune s.station.modes (s.lane n).activeMast old p = true
      · refine ⟨(s.afterRetune n p).afterTake n tag adjusted, fun _ => rfl, fun _ _ again => ?_⟩
        cases applied.symm.trans again
        simp [new]
      · refine ⟨(s.afterUpdate n p).afterTake n tag adjusted, fun o => absurd o off, fun _ _ again => ?_⟩
        cases applied.symm.trans again
        simp [new]

/-- A parameter update to a fixed policy with a survey request waiting; the hold limit with a STOP and with a retune pending. -/
theorem witness_ApplyWindowExpiryTakesPlan_takes :
    let fixed := AcceptedPlan.tune 9 { plan with mastPolicy := .mastA } 0
    let asked := { running { pendingLane fixed with switchOrder := some 57 } with
      survey := { SurveyUnit.reset with queue := [{ lane := 3, cls := .lock }] } }
    let held := fun plan => running { fadeLane with hold := 199, pendingPlan := some plan, applyWindow := some 60000 }
    let retune := AcceptedPlan.tune 9 { plan with centre := 586000 } 0
    (isRetune modes .a plan { plan with mastPolicy := .mastA } = false ∧ (asked.lane 3).applyWindow = some asked.time ∧
      (asked.lane 3).pendingPlan = some fixed ∧ (after (.applyWindowExpiry 3) asked).hasRequest 3 = false ∧
      ((after (.applyWindowExpiry 3) asked).lane 3).switchOrder = none) ∧
    (UsedReport (held retune) 3 plan 8704 0 0 (clean 0 6125) ∧ ¬ plan.lockThreshold ≤ (clean 0 6125).qi ∧
      ((held retune).lane 3).pendingPlan = some retune ∧ plan.holdLimit = ((held retune).lane 3).hold + 1) ∧
    ((after (.symbolReport 3 8704 0 0 true) (held retune)).lane 3).appliedTag = 9 ∧
    ((after (.symbolReport 3 8704 0 0 false) (held (.stop 9 plan.notify))).lane 3).phase = .off :=
  ⟨by decide +kernel, ⟨clean_running _ _ _ _ _ rfl rfl rfl (by decide) (by decide), by decide⟩, by decide +kernel⟩

/-- A used frame-start report with a retune pending, in LOCK at CF and in FADE at CR: its own effects come first. -/
theorem witness_ApplyWindowExpiryTakesPlan_frame :
    let retune := AcceptedPlan.tune 9 { plan with centre := 586000 } 0
    let poor := { pendingLane retune with tracker := { QualityTracker.cleared with seeded := true, qacc := 7000 }, fadeRun := 3 }
    let good := { fadeLane with
      tracker := { QualityTracker.cleared with seeded := true, qacc := 12800 }
      recoverRun := 1
      pendingPlan := some retune }
    (∃ v, ReportStays (running poor) 3 plan 8704 0 0 v) ∧ (∃ v, ReportStays (running good) 3 plan 8704 40000 300 v) ∧
    ((after (.symbolReport 3 8704 0 0 true) (running poor)).lane 3).appliedTag = 9 ∧
    ((after (.symbolReport 3 8704 40000 300 true) (running good)).lane 3).phase = .seek := by
  refine ⟨?lock, ?fade, by decide +kernel, by decide +kernel⟩
  · exact (stays_some _ _ _ _ (.inl rfl)).imp fun _ stays => .inl ⟨_, clean_running _ 0 0 0 6125 rfl rfl rfl (by decide) (by decide), stays⟩
  · exact (stays_some _ _ _ _ (.inr (by decide +kernel))).imp fun _ stays =>
      .inl ⟨_, clean_running _ 40000 300 56 12992 rfl rfl rfl (by decide) (by decide), stays⟩

/-- A part whose Router Queue holds `k` packets. -/
def queued (k : Nat) (l : Lane) : State :=
  { running l with router := { Router.reset with queue := List.replicate k { bytes := Vector.replicate 188 0, lane := 3, mast := .a, uncorrectable := false, corrected := 0, firstAfterLock := false, stamp := 0 } } }

theorem witness_PacketGateByLaneState :
    ((queued 0 trackLane).lane 3).phase = .track ∧ ((queued 23 lockLane).lane 3).phase = .lock ∧ (queued 23 lockLane).router.queue.length < 24 ∧
    ((queued 24 fadeLane).lane 3).phase = .fade ∧ (queued 24 fadeLane).router.queue.length = 24 := by decide +kernel

/-! ### Witnesses: survey -/

/-- Lane 3's dwell on mast B: `settling` and `sampled` as given. -/
def dwellOf (settling sampled : Nat) : Dwell :=
  { lane := 3, cls := .lock, mast := .b, length := 8, settling := settling, sampled := sampled, sum := 407, count := 7, hits := 0 }

/-- The part with that dwell running. -/
def dwelling (settling sampled : Nat) (hit : Bool) : State :=
  { running lockLane with survey := { SurveyUnit.reset with
      dwell := some (dwellOf settling sampled), tap := { setting := some { centre := 578000, bandwidth := 8, mast := .b }, hit := hit } } }

theorem witness_SurveyReportMovesDwell :
    (dwelling 1 0 false).survey.dwell = some (dwellOf 1 0) ∧ ((dwelling 1 0 false).lane 3).applied = some plan ∧
    (dwellOf 1 0).settling < 2 ∧ 2 ≤ (dwellOf 2 3).settling ∧ (dwellOf 2 3).sampled + 1 < (dwellOf 2 3).length ∧
    (dwelling 2 3 true).survey.tap.hit = true ∧ (dwellOf 2 3).hits < plan.blankLimit ∧ (dwelling 2 3 false).survey.tap.hit = false := by
  decide +kernel

/-- A used sampled report with a hit, the survey count being at B. -/
theorem witness_SurveyReportMovesDwell_hit :
    let d := { dwellOf 2 3 with hits := 2 }
    let s := { running lockLane with survey := { SurveyUnit.reset with dwell := some d, tap := (dwelling 2 3 true).survey.tap } }
    s.survey.tap.hit = true ∧ plan.blankLimit ≤ d.hits ∧ (after (.surveyReport 40000 300) s).survey.dwell.map Dwell.count = some 8 ∧
    (after (.surveyReport 40000 300) s).survey.dwell.map Dwell.hits = some 3 := by decide +kernel

/-- Section 5.8: the eighth sample brings the sum from 407 to a mean of 58, at or above QI 50 + 4, and a switch is ordered. -/
theorem witness_SurveyDwellEndDecides :
    let s := dwelling 2 7 false
    s.survey.dwell = some (dwellOf 2 7) ∧ (s.lane 3).applied = some plan ∧ 2 ≤ (dwellOf 2 7).settling ∧
    (dwellOf 2 7).sampled + 1 = (dwellOf 2 7).length ∧ s.survey.tap.hit = false ∧ (s.lane 3).switchOrder = none ∧
    s.survey.queue = [] ∧ ((after (.surveyReport 40000#16 300#16) s).lane 3).switchOrder = some 57 := by decide +kernel

/-- The last report is excused: the mean of seven samples; and with no sample before it there is no result and no order. -/
theorem witness_SurveyDwellEndDecides_excused :
    let ended := fun d : Dwell =>
      after (.surveyReport 40000 300) { running lockLane with survey := { SurveyUnit.reset with dwell := some d, tap := (dwelling 2 7 true).survey.tap } }
    (dwelling 2 7 true).survey.tap.hit = true ∧ (dwellOf 2 7).hits < plan.blankLimit ∧
    (ended (dwellOf 2 7)).survey.lastMean[(3 : LaneId)] = some 58 ∧ ((ended (dwellOf 2 7)).lane 3).switchOrder = some 58 ∧
    (ended { dwellOf 2 7 with sum := 0, count := 0 }).survey.lastMean[(3 : LaneId)] = none ∧
    ((ended { dwellOf 2 7 with sum := 0, count := 0 }).lane 3).switchOrder = none := by decide +kernel

/-- A switch order of mean 57 waiting in LOCK and in FADE, and an excused report. -/
theorem witness_SurveyDwellEndDecides_switch :
    let hit := fun l : Lane => running { l with tap := { l.tap with hit := true }, switchOrder := some 57 }
    (∀ l ∈ [lockLane, fadeLane], (((hit l).lane 3).phase = .lock ∨ ((hit l).lane 3).phase = .fade) ∧
      ((hit l).lane 3).switchOrder = some 57 ∧ ((hit l).lane 3).applied = some plan ∧ ((hit l).lane 3).tap.hit = true ∧
      ((hit l).lane 3).tracker.hits < plan.blankLimit ∧ plan.blankLimit ≤ 15 ∧
      ((after (.symbolReport 3 8704 0 0 false) (hit l)).lane 3).activeMast = .b ∧
      ((after (.symbolReport 3 8704 0 0 false) (hit l)).lane 3).tracker.qacc = 14592) ∧ fadeLane.hold + 1 < plan.holdLimit := by
  decide +kernel

/-- A switch order of mean 57 and a used report; and at a frame-start a parameter update that keeps the order and one that drops it. -/
theorem witness_SurveyDwellEndDecides_used :
    let order := fun l : Lane => running { l with switchOrder := some 57 }
    let update := fun policy => AcceptedPlan.tune 9 { plan with mastPolicy := policy } 0
    let l := fun policy => (after (.symbolReport 3 8704 40000 300 true) (order (pendingLane (update policy)))).lane 3
    (∃ v, ReportStays (order lockLane) 3 plan 8704 40000 300 v) ∧ (∃ v, ReportStays (order (pendingLane (update .autoB))) 3 plan 8704 40000 300 v) ∧
    ((after (.symbolReport 3 8704 40000 300 false) (order lockLane)).lane 3).tracker.qacc = 14592 ∧
    ((l .autoB).activeMast = .b ∧ (l .autoB).appliedTag = 9) ∧ ((l .mastA).activeMast = .a ∧ (l .mastA).tracker.qacc = 12992) := by
  refine ⟨?plain, ?framed, ?_⟩
  · exact (stays_some _ _ _ _ (.inl rfl)).imp fun _ stays => .inl ⟨_, clean_running _ 40000 300 56 12992 rfl rfl rfl (by decide) (by decide), stays⟩
  · exact (stays_some _ _ _ _ (.inl rfl)).imp fun _ stays => .inl ⟨_, clean_running _ 40000 300 56 12992 rfl rfl rfl (by decide) (by decide), stays⟩
  · decide +kernel

/-- The dwell of lane 3 ends while lanes 6 and 5 wait: the FADE-class request is served next and the other one stays in the queue; with nobody
eligible the tap stays idle. -/
theorem witness_SurveyDwellEndDecides_next :
    let waiting : List SurveyRequest := [{ lane := 6, cls := .lock }, { lane := 5, cls := .fade }]
    let s := (dwelling 2 7 false).setLane 5 fadeLane
    let next := fun l : Lane => after (.surveyReport 40000 300) (State.setLane { s with survey := { s.survey with queue := waiting } } 5 l)
    (∀ r ∈ waiting, r.lane ≠ (dwellOf 2 7).lane) ∧ (next fadeLane).survey.queue = [{ lane := 6, cls := .lock }] ∧
    (next fadeLane).survey.dwell.map Dwell.lane = some 5 ∧ (next fadeLane).survey.tap.setting.map TapSetting.mast = some .b ∧
    (chooseRequest .arrival (waiting.filter fun r => ((next fadeLane).lane r.lane).switchOrder.isNone)) = some { lane := 5, cls := .fade } ∧
    (surveying { lockLane with switchOrder := some 57 } [{ lane := 3, cls := .lock }] none).surveySettle.survey.tap = .idle := by decide +kernel

/-- A LOCK-class dwell of lane 5 and an eligible FADE-class request of lane 3: preempted, the request back at the head. -/
theorem witness_SurveyChoice_preempts :
    let s := surveying lockLane [{ lane := 3, cls := .fade }] (some .lock)
    (∀ d, s.survey.dwell = some d → s.preempts d) ∧ s.surveySettle.survey.queue = [{ lane := 5, cls := .lock }] ∧
    s.surveySettle.survey.dwell.map Dwell.lane = some 3 := by
  refine ⟨fun d h => ?_, by decide +kernel, by decide +kernel⟩
  cases h
  exact ⟨rfl, _, .head _, rfl, by decide, by decide +kernel⟩

theorem witness_SurveyChoice :
    let rs : List SurveyRequest := [{ lane := 6, cls := .lock }, { lane := 10, cls := .fade }, { lane := 2, cls := .fade }]
    (rs.map SurveyRequest.lane).Nodup ∧ chooseRequest .arrival rs = some { lane := 10, cls := .fade } ∧
    chooseRequest .lane rs = some { lane := 2, cls := .fade } ∧
    chooseRequest .lane [{ lane := 6, cls := .lock }] = some { lane := 6, cls := .lock } := by decide

theorem running_lanes (n : LaneId) : (running lockLane).lane n = if n = 3 then lockLane else Lane.reset := by
  revert n; decide +kernel

theorem witness_ReceptionKeptSound : ReceptionSound (running lockLane) ∧ step (running lockLane) = .next (running lockLane) := by
  have locked : lockLane.delivering modes := by
    refine ⟨plan, rfl, ⟨rfl, ?_⟩, ⟨0, rfl, by decide +kernel⟩, ?_⟩ <;> simp [lockLane, laneIn, plan, MastPolicy.isAuto, QualityTracker.cleared, Lane.reset]
  have resting : Lane.reset.sound modes := by simp [Lane.sound, Lane.nothingPending, Lane.reset]
  refine ⟨⟨fun n => ?_, by decide, by simp [State.surveyed, running, State.reset, State.setLane, SurveyUnit.reset], rfl, fun off => absurd rfl off⟩, rfl⟩
  rw [running_lanes n]
  split
  · exact locked
  · exact resting

theorem witness_ReceptionKeptSound_settled : SurveySettled (running lockLane) :=
  ⟨fun _ _ h => (nomatch h), fun _ h => (nomatch h)⟩

/-! ### Witnesses: staging -/

/-- The host half of a Lane Slot for the plan, with some fields given. -/
def half (action : Option PlanAction) (centre bandwidth modeCode : Nat) : SlotHostHalf :=
  { staged := true, action := action, tag := 17, centre := centre, bandwidth := bandwidth, mastCode := 2, modeCode := modeCode,
    lockThreshold := 40, unlockThreshold := 34, lockCount := 3, fadeCount := 4, recoverCount := 2, holdLimit := 200, smoothing := 3,
    blankLimit := 2, seekLimit := 5, surveyInterval := 30, dwell := 8, margin := 4, notify := plan.notify }

/-- Each check of R98 at its boundary: the low edge of the band one kHz short, the band edge itself, a FIXED entry that is not usable, a
channel that overlaps lane 3's. -/
theorem witness_PlanChecksInOrder :
    let s := running lockLane
    s.checkPlan 0 (half none 178000 8 0) = .refuse .badAction ∧ s.checkPlan 0 (half (some .tune) 178000 5 0) = .refuse .badBandwidth ∧
    s.checkPlan 0 (half (some .stop) 0 0 9) = .accept (.stop 17 plan.notify) ∧
    s.checkPlan 0 (half (some .tune) 177999 8 0) = .refuse .freqRange ∧ s.checkPlan 0 (half (some .tune) 178000 8 1) = .refuse .badMode ∧
    s.checkPlan 0 (half (some .tune) 178000 8 0x81) = .refuse .badMode ∧ s.checkPlan 0 (half (some .tune) 585999 8 0) = .refuse .overlap ∧
    s.overlapsOthers 0 586000 8 = false ∧ s.overlapsOthers 0 578000 8 = false ∧ modePolicyOf 0x83 = some (.fixed 3) ∧
    s.station.modes[(3 : EntryId)].isSome = true := by decide +kernel

/-- Lane slots: none staged; STAGED with tag 17, TUNE with bandwidth 0; and STAGED with tag 17, TUNE, 578,000 kHz, 8 MHz, AUTO. -/
def emptySlot : Vector Byte 64 := Vector.replicate 64 0
def badSlot : Vector Byte 64 := ((emptySlot.set 0 1).set 1 1).set 2 17
def goodSlot : Vector Byte 64 := (((badSlot.set 4 0xD0).set 5 0xD1).set 6 8).set 8 8 |>.set 9 2

theorem witness_LaneSlotReadAnswers :
    let s := onLink (running lockLane) (.laneSlotRead 3)
    let off := onLink (running Lane.reset) (.laneSlotRead 3)
    s.link.device = .running ∧ (hostHalf emptySlot).staged = false ∧ (hostHalf badSlot).staged = true ∧
    (s.answer 3).lastAnswered ≠ some (hostHalf badSlot).tag ∧ s.checkPlan 3 (hostHalf badSlot) = .refuse .badBandwidth ∧
    (hostHalf goodSlot).staged = true ∧ (hostHalf goodSlot).centre = 578000 ∧ (s.lane 3).phase = .lock ∧
    ((after (.laneSlotReadComplete (.data goodSlot)) s).lane 3).pendingPlan.isSome = true ∧
    (off.lane 3).phase = .off ∧ off.hasRequest 3 = false ∧
    ((after (.laneSlotReadComplete (.data goodSlot)) off).lane 3).phase = .seek := by decide +kernel

/-- A plan that waits is superseded by a newer one (R103). -/
theorem witness_LaneSlotReadAnswers_superseded :
    let s := onLink (running (pendingLane (.stop 9 plan.notify))) (.laneSlotRead 3)
    (s.lane 3).pendingPlan.isSome = true ∧ (s.lane 3).phase = .lock ∧ (hostHalf goodSlot).staged = true ∧
    (s.answer 3).lastAnswered ≠ some (hostHalf goodSlot).tag ∧
    (after (.laneSlotReadComplete (.data goodSlot)) s).fetcher.superseded = 1 := by decide +kernel

/-- A STOP slot with tag 17. -/
def stopSlot : Vector Byte 64 := badSlot.set 1 2

/-- A retune accepted in SEEK and TRACK, a STOP accepted in TRACK and OFF, and a read that completes in STOPPING. -/
theorem witness_LaneSlotReadAnswers_atOnce :
    let away := goodSlot.set 4 0xD8
    let s := fun l => onLink (running l) (.laneSlotRead 3)
    let stopping := onLink (inDevice .stopping (running Lane.reset)) (.laneSlotRead 3)
    (hostHalf stopSlot).action = some .stop ∧ (running trackLane).checkPlan 3 (hostHalf stopSlot) = .accept (.stop 17 (hostHalf stopSlot).notify) ∧
    (∀ l ∈ [seekLane, trackLane], l.applied.isSome = true ∧
      ((after (.laneSlotReadComplete (.data away)) (s l)).lane 3).applied.map TunePlan.centre = some 578008 ∧
      ((after (.laneSlotReadComplete (.data away)) (s l)).lane 3).appliedTag = 17 ∧
      ((after (.laneSlotReadComplete (.data stopSlot)) (s l)).lane 3).phase = .off) ∧
    ((after (.laneSlotReadComplete (.data stopSlot)) (s Lane.reset)).lane 3).appliedTag = 17 ∧
    stopping.link.device ≠ .running ∧ ((after (.laneSlotReadComplete (.data goodSlot)) stopping).lane 3).phase = .off := by decide +kernel

/-- The field order of a Lane Slot: each byte its own number. -/
theorem test_lane_slot_fields :
    let h := hostHalf (Vector.ofFn fun i : Fin 64 => BitVec.ofNat 8 (i.val + 1))
    h.staged = true ∧ h.action = some .stop ∧ h.tag = 0x0403#16 ∧ h.centre = 0x08070605 ∧ h.bandwidth = 9 ∧ h.margin = 24 ∧
    h.notify = { state := true, switch := false, seekTimeout := false } ∧ modePolicyOf 0x87 = some (.fixed 7) ∧ modePolicyOf 0x88 = none ∧
    modePolicyOf 0 = some .auto := by decide +kernel

theorem witness_LaneSlotWriteBackRaisesPlan :
    ∀ mark, (onLink (running lockLane) (.laneSlotWriteBack 3 mark)).carries (moving (.laneSlotWriteBack 3 mark)) (.laneSlotWriteBack 3 mark) :=
  fun _ => onLink_carries _ _

theorem witness_PlansKeptInRange : PlansInRange (running lockLane) ∧ step (running lockLane) = .next (running lockLane) := by
  refine ⟨fun n => ?_, rfl⟩
  rw [running_lanes n]
  split
  · refine ⟨fun p h => ?_, fun _ _ _ h => (nomatch h)⟩
    cases h
    unfold TunePlan.inRange
    decide
  · exact ⟨fun p h => (nomatch h), fun _ _ _ h => (nomatch h)⟩

/-- Only lane 3 holds a plan, so no two overlap; and lane 3's channel overlaps one 8 MHz away short of a kHz. -/
theorem witness_PlansKeptInRange_apart :
    ChannelsApart (running lockLane) ∧ (running lockLane).holds 3 plan ∧ ChannelsOverlap 585999 8 plan.centre plan.bandwidth ∧
    (half (some .tune) 178000 8 0).holdLimit ≤ 65535 ∧ (half (some .tune) 178000 8 0).seekLimit ≤ 255 ∧
    (half (some .tune) 178000 8 0).surveyInterval ≤ 255 ∧ (half (some .tune) 178000 8 0).dwell ≤ 255 := by
  have none_else : ∀ m : LaneId, m ≠ 3 → ∀ q, ¬ (running lockLane).holds m q := by
    intro m hm q h
    unfold State.holds at h
    rw [running_lanes m, if_neg hm] at h
    rcases h with h | ⟨_, _, h⟩ <;> exact nomatch h
  refine ⟨fun m n hmn q r hq hr _ => ?_, .inl rfl, by unfold ChannelsOverlap; decide, by decide, by decide, by decide, by decide⟩
  by_cases h : m = 3
  · exact none_else n (fun h' => hmn (h.trans h'.symm)) r hr
  · exact none_else m h q hq

/-! ### Witnesses: Packet Router -/

/-- Entries 1, 2 and 4 of section 7.7. -/
def entry1 : FilterEntry := { lanes := 0x008, base := 256, exponent := 0, target := 2, dropErrored := false, checkContinuity := true }
def entry2 : FilterEntry := { lanes := 0x008, base := 256, exponent := 4, target := 5, dropErrored := true, checkContinuity := false }

/-- A packet of lane 3 with PID 256, payload and continuity number 9. -/
def packet (uncorrectable : Bool) : Packet :=
  { bytes := (((Vector.replicate 188 0).set 0 0x47).set 1 1).set 3 0x19, lane := 3, mast := .a, uncorrectable := uncorrectable,
    corrected := 0, firstAfterLock := false, stamp := 0 }

theorem witness_ContinuityCheck :
    entry1.isChecking = true ∧ entry1.accepts (packet false) = true ∧ entry1.accepts (packet true) = true ∧
    (packet true).uncorrectable = true ∧ packetHasPayload (packet false).bytes = true ∧
    (packetContinuity (packet false).bytes).toNat = ((8#4).toNat + 1) % 16 ∧ packetContinuity (packet false).bytes = 9#4 ∧
    (packetContinuity (packet false).bytes).toNat ≠ ((6#4).toNat + 1) % 16 := by decide +kernel

/-- Positions that check nothing: no valid entry, two lanes, two PIDs, check-continuity clear; and an entry of another lane's packets. -/
theorem witness_ContinuityCheck_unchecked :
    (∀ e ∈ [{ entry1 with lanes := 0x00C }, { entry1 with lanes := 0 }, { entry1 with exponent := 1 }, { entry1 with checkContinuity := false }],
      e.isChecking = false ∧ entryOutcome (packet false) (some e) (some 8) = .unchecked) ∧
    entryOutcome (packet false) none (some 8) = .unchecked ∧
    (({ entry1 with lanes := 0x010 } : FilterEntry).isChecking = true ∧ ({ entry1 with lanes := 0x010 } : FilterEntry).accepts (packet false) = false ∧
      nextBaseline (packet false) (some { entry1 with lanes := 0x010 }) (some 8) = some 8) := by decide +kernel

theorem witness_OfferedSlotTaken :
    openStream.phase = .opened ∧ openStream.fifo.length < 32 ∧ ({ openStream with fifo := List.replicate 32 slot } : StreamWriter).fifo.length = 32 ∧
    ({ openStream with phase := .starved } : StreamWriter).phase = .starved ∧ StreamWriter.reset.phase = .closed := by decide +kernel

/-- The running part with entries 1 and 2 in its active table and one packet queued. -/
def routing (uncorrectable : Bool) : State :=
  { withStream openStream with router := { Router.reset with
      queue := [packet uncorrectable], active := ((Vector.replicate 256 none).set 1 (some entry1)).set 2 (some entry2) } }

/-- An uncorrectable packet goes to stream 2 and is withheld from stream 5; a lane 5 packet matches nothing. -/
theorem witness_RoutePacketReachesTargets :
    (routing true).router.inHand = none ∧ (routing true).router.queue = [packet true] ∧ (packet true).uncorrectable = true ∧
    (routing true).router.shadow = .none ∧
    (routing true).router.active[1] = some entry1 ∧ (routing true).router.active[2] = some entry2 ∧
    entry1.accepts (packet true) = true ∧ entry2.accepts (packet true) = true ∧ entry2.dropErrored = true ∧
    entry1.accepts { packet true with lane := 5 } = false ∧
    ((after .routePacket (routing true)).stream 5).counters.withheld = 1 ∧
    ((after .routePacket (routing true)).stream 2).counters.droppedClosed = 1 := by decide +kernel

/-- Against a baseline of 6 the number 9 is a break, which both slots carry; a first-after-lock packet drops that baseline first, and starts
anew. While a shadow is ready nothing is routed. -/
theorem witness_RoutePacketReachesTargets_break :
    let s := { routing false with router := { (routing false).router with baselines := (Vector.replicate 256 none).set 1 (some 6#4) } }
    let open5 := s.setStream 5 openStream
    let first := { s with router := { s.router with queue := [{ packet false with firstAfterLock := true }] } }
    let ready := { s with router := { s.router with shadow := .ready (Vector.replicate 256 none) } }
    entry1.isChecking = true ∧ entry1.lanes.getLsbD (packet false).lane.val = true ∧
    (after .routePacket open5).router.breaks = 1 ∧
    (((after .routePacket open5).stream 5).fifo.map Slot.continuityBreak) = [false, true] ∧
    (after .routePacket first).router.breaks = 0 ∧ (after .routePacket first).router.baselines[1] = some 9#4 ∧
    ready.router.shadow = .ready (Vector.replicate 256 none) ∧ after .routePacket ready = ready := by
  exact ⟨by decide, by decide, by decide +kernel, by decide +kernel, by decide +kernel, by decide +kernel, rfl, rfl⟩

/-- In STOPPING a packet counted by a CLOSED stream, offered or withheld, makes its write-back owed; in RUNNING it does not. -/
theorem witness_RoutePacketReachesTargets_stopping :
    let stopping := fun un => inDevice .stopping (routing un)
    let routed := fun un => after .routePacket (stopping un)
    ((stopping true).stream 2).phase = .closed ∧ (stopping true).link.device = .stopping ∧
    ((routed true).stream 2).owed = true ∧ ((routed true).stream 5).owed = true ∧ ((routed true).stream 6).owed = false ∧
    ((routed false).stream 5).counters ≠ ((routed false).stream 5).reported ∧
    ((after .routePacket (routing true)).stream 5).owed = false := by decide +kernel

theorem witness_RoutedPacketEntersLedgerOnce :
    (routing false).router.inHand = none ∧ (routing false).router.queue = [packet false] ∧ (routing false).router.shadow = .none ∧
    exec .routePacket (routing false) = .next (after .routePacket (routing false)) ∧
    ((routing false).stream 2).counters.droppedClosed.toNat < 4294967295 ∧
    ((after .routePacket (routing false)).stream 2).ledger = ((routing false).stream 2).ledger + 1 ∧
    ((after .routePacket (routing false)).stream 6).ledger = ((routing false).stream 6).ledger := by
  exact ⟨rfl, rfl, rfl, rfl, by decide +kernel, by decide +kernel, by decide +kernel⟩

/-- The part with a shadow. -/
def withShadow (shadow : Shadow) : State :=
  { running lockLane with router := { Router.reset with shadow := shadow } }

theorem witness_FilterSwapTakesShadow :
    (withShadow (.ready (Vector.replicate 256 none))).router.shadow = .ready (Vector.replicate 256 none) ∧
    (withShadow (.ready (Vector.replicate 256 none))).router.inHand = none ∧
    (after .filterSwap (withShadow (.ready (Vector.replicate 256 none)))).router.version = 1 := by exact ⟨rfl, rfl, by decide +kernel⟩

/-- Blocks 7 and 3, with and without a restart waiting: 7 makes the shadow ready, 3 leads to read 4. -/
theorem witness_FilterBlockReadFillsShadow :
    let s := fun (j : Fin 8) restart => onLink (withShadow (.filling (Vector.replicate 256 none) j restart)) (.filterBlockRead j)
    (∀ j restart, (s j restart).carries (moving (.filterBlockRead j)) (.filterBlockRead j) ∧ (s j restart).link.device = .running ∧
      (s j restart).router.shadow = .filling (Vector.replicate 256 none) j restart) ∧
    (after (.filterBlockReadComplete (.data (Vector.replicate 256 0))) (s 7 false)).router.shadow = .ready (Vector.replicate 256 none) ∧
    (after (.filterBlockReadComplete (.data (Vector.replicate 256 0))) (s 3 false)).router.shadow =
      .filling (Vector.replicate 256 none) 4 false ∧
    (byteAt ((Vector.replicate 256 (0 : Byte)).set 248 1) (8 * 31)).getLsbD 0 = true ∧
    (byteAt (Vector.replicate 256 (0 : Byte)) (8 * 0)).getLsbD 0 = false :=
  ⟨fun _ _ => ⟨onLink_carries _ _, rfl, rfl⟩, by decide +kernel, by decide +kernel, by decide +kernel, by decide +kernel⟩

/-- In STOPPING the block's data are discarded and the load is over. -/
theorem witness_FilterBlockReadFillsShadow_stopping :
    let s := onLink (inDevice .stopping (withShadow (.filling (Vector.replicate 256 none) 3 false))) (.filterBlockRead 3)
    s.link.device ≠ .running ∧ (after (.filterBlockReadComplete (.data (Vector.replicate 256 5))) s).router.shadow = .none ∧
    (after (.filterBlockReadComplete (.data (Vector.replicate 256 5))) s).link.notice = 0 := by decide +kernel

/-! ### Witnesses: Stream Writers -/

/-- A Stream Record that asks for OPEN with head address 0x2000, and one with an empty chain. -/
def openRecord : Vector Byte 64 := ((Vector.replicate 64 0).set 0 1).set 9 0x20
def openEmpty : Vector Byte 64 := (Vector.replicate 64 0).set 0 1

theorem witness_StreamRecordReadIsFetch :
    (onLink (running lockLane) (.streamRecordRead 6)).carries (moving (.streamRecordRead 6)) (.streamRecordRead 6) ∧
    (onLink (running lockLane) (.streamRecordRead 6)).link.device = .running ∧ (streamFetch openRecord).isOpen = true ∧
    (streamFetch openRecord).head = 0x2000 ∧ (streamFetch openEmpty).isOpen = true ∧ (streamFetch openEmpty).head = 0 ∧
    ((running lockLane).stream 6).phase = .closed ∧ ((withStream openStream).stream 6).phase = .opened ∧
    ((after (.streamRecordReadComplete (.data openRecord)) (onLink (running lockLane) (.streamRecordRead 6))).stream 6).phase = .opened := by
  refine ⟨onLink_carries _ _, ?_⟩; decide +kernel

/-- A Stream Record that asks for CLOSE, with head address 0x2000 and 0. -/
def closeRecord : Vector Byte 64 := openRecord.set 0 0
def closeEmpty : Vector Byte 64 := openEmpty.set 0 0

/-- A STARVED stream waiting on the record at 0x2000, with nothing in flight. -/
def starved : StreamWriter := { StreamWriter.reset with phase := .starved, position := .waitingOn 0x2000 }

/-- The state of stream 6 and what it is to transfer after a command on the link. -/
def streamAfter (c : Instr) (w : StreamWriter) (kind : TransferKind) : StreamPhase × RecordJob :=
  let v := (after c (onLink (withStream w) kind)).stream 6
  (v.phase, v.job)

/-- An OPEN in CLOSING and HALTED, and in STARVED with a check in flight, waiting on a record, and waiting at end-of-chain. -/
theorem witness_StreamRecordReadIsFetch_open :
    let fetch := fun w => streamAfter (.streamRecordReadComplete (.data openRecord)) w (.streamRecordRead 6)
    (∀ w, (onLink (withStream w) (.streamRecordRead 6)).carries (moving (.streamRecordRead 6)) (.streamRecordRead 6) ∧
      (onLink (withStream w) (.streamRecordRead 6)).link.device = .running ∧ (onLink (withStream w) (.streamRecordRead 6)).stream 6 = w) ∧
    fetch { openStream with phase := .closing } = (.closing, .none) ∧ fetch { StreamWriter.reset with phase := .halted } = (.halted, .none) ∧
    fetch { starved with job := .read 0x2000 } = (.starved, .read 0x2000) ∧ fetch starved = (.starved, .read 0x2000) ∧
    fetch { starved with position := .waitingAtEnd } = (.starved, .read 0x2000) :=
  ⟨fun _ => ⟨onLink_carries _ _, rfl, rfl⟩, by decide +kernel, by decide +kernel, by decide +kernel, by decide +kernel, by decide +kernel⟩

/-- A CLOSE in each state: CLOSED, CLOSING, HALTED; OPEN with a slot left, with an empty buffer and with a part-filled one; STARVED with an
empty FIFO, waiting on a record, at end-of-chain with a head address and without, and with each kind of check in flight. -/
theorem witness_StreamRecordReadIsFetch_close :
    let fetch := fun w => streamAfter (.streamRecordReadComplete (.data closeRecord)) w (.streamRecordRead 6)
    let held := { openStream with fifo := [] }
    let waiting := { starved with fifo := [slot] }
    (streamFetch closeRecord).isOpen = false ∧ (streamFetch closeRecord).head = 0x2000 ∧ (streamFetch closeEmpty).isOpen = false ∧
    (streamFetch closeEmpty).head = 0 ∧
    fetch StreamWriter.reset = (.closed, .none) ∧ fetch { held with phase := .closing, job := .emptyMark 0x2000 } = (.closing, .emptyMark 0x2000) ∧
    fetch { StreamWriter.reset with phase := .halted } = (.closed, .none) ∧ fetch openStream = (.closing, .none) ∧
    fetch { held with current := some { buffer with filled := 0 } } = (.closing, .emptyMark 0x2000) ∧
    fetch held = (.closing, .closingFields (buffer.closeFor .close)) ∧
    fetch starved = (.closed, .none) ∧ fetch waiting = (.closing, .read 0x2000) ∧
    fetch { waiting with position := .waitingAtEnd } = (.closing, .read 0x2000) ∧
    streamAfter (.streamRecordReadComplete (.data closeEmpty)) { waiting with position := .waitingAtEnd } (.streamRecordRead 6) = (.closed, .none) ∧
    (∀ job ∈ [RecordJob.read 0x2000, .filling buffer, .mark (badRecordClose 0x2000 0), .closingFields (badRecordClose 0x2000 0)],
      fetch { starved with job := job } = (.closing, job)) := by decide +kernel

/-- The data of a read that completes in STOPPING is discarded. -/
theorem witness_StreamRecordReadIsFetch_stopping :
    let s := onLink (inDevice .stopping (withStream openStream)) (.streamRecordRead 6)
    s.carries (moving (.streamRecordRead 6)) (.streamRecordRead 6) ∧ s.link.device ≠ .running ∧
    (after (.streamRecordReadComplete (.data closeRecord)) s).stream 6 = openStream :=
  ⟨onLink_carries _ _, by decide, by decide +kernel⟩

/-- An OPEN stream reading its record at 0x2000. -/
def reading : StreamWriter :=
  { StreamWriter.reset with phase := .opened, position := .readingAt 0x2000, job := .read 0x2000, currentRecord := 0x2000 }

/-- Buffer Records: EMPTY with capacity 4 (and with 1), EMPTY with capacity 0, FULL. -/
def emptyRecord : Vector Byte 32 := (Vector.replicate 32 0).set 16 4
def smallRecord : Vector Byte 32 := (Vector.replicate 32 0).set 16 1
def badRecord : Vector Byte 32 := Vector.replicate 32 0
def fullRecord : Vector Byte 32 := emptyRecord.set 31 2

theorem witness_BufferRecordReadActsOnMark :
    (onLink (withStream reading) (.bufferRecordRead 6)).carries (moving (.bufferRecordRead 6)) (.bufferRecordRead 6) ∧
    ((withStream reading).stream 6).phase = .opened ∧ ((withStream reading).stream 6).job = .read 0x2000 ∧
    (bufferRecord emptyRecord).isEmpty = true ∧ (bufferRecord smallRecord).capacity = 1 ∧ (bufferRecord badRecord).isEmpty = true ∧
    (bufferRecord badRecord).capacity = 0 ∧ (bufferRecord fullRecord).isEmpty = false ∧
    ((after (.bufferRecordReadComplete (.data fullRecord)) (onLink (withStream reading) (.bufferRecordRead 6))).stream 6).phase = .starved := by
  refine ⟨onLink_carries _ _, ?_⟩; decide +kernel

/-- STARVED: a record taken, a bad one, one not EMPTY without and with a fetch that came meanwhile. CLOSING: an empty FIFO, a record not EMPTY,
one taken, a bad one. -/
theorem witness_BufferRecordReadActsOnMark_later :
    let read := fun w r => streamAfter (.bufferRecordReadComplete (.data r)) w (.bufferRecordRead 6)
    let check := { starved with job := .read 0x2000 }
    let draining := { reading with phase := .closing, fifo := [slot] }
    (∀ w, (onLink (withStream w) (.bufferRecordRead 6)).carries (moving (.bufferRecordRead 6)) (.bufferRecordRead 6) ∧
      (onLink (withStream w) (.bufferRecordRead 6)).stream 6 = w) ∧
    (read check smallRecord = (.starved, .filling ((bufferRecord smallRecord).hold 0x2000)) ∧
      read check badRecord = (.starved, .closingFields (badRecordClose 0x2000 0)) ∧ read check fullRecord = (.starved, .none) ∧
      read { check with recheck := some 0 } fullRecord = (.starved, .read 0x2000)) ∧
    (read { draining with fifo := [] } smallRecord = (.closed, .none) ∧ read draining fullRecord = (.closed, .none) ∧
      read draining smallRecord = (.closing, .filling ((bufferRecord smallRecord).hold 0x2000)) ∧
      read draining badRecord = (.closing, .closingFields (badRecordClose 0x2000 0))) :=
  ⟨fun _ => ⟨onLink_carries _ _, rfl⟩, by decide +kernel, by decide +kernel⟩

/-- A close of the buffer with a reason and a next record. -/
def closeOf (reason : CloseReason) (next : Addr) : BufferClose :=
  { address := 0x2000, nextRecord := next, filled := 2, stamp := some 7, reason := reason }

theorem witness_FillingAndFieldsWrites :
    let fields := withStream { reading with job := .closingFields (closeOf .flush 0x2100) }
    let filling := withStream { reading with job := .filling buffer }
    let starved := withStream { reading with phase := .starved, position := .waitingOn 0x2000, job := .filling buffer }
    (onLink fields (.closingFieldsWrite 6)).carries (moving (.closingFieldsWrite 6)) (.closingFieldsWrite 6) ∧
    (onLink filling (.fillingWrite 6)).carries (moving (.fillingWrite 6)) (.fillingWrite 6) ∧
    (fields.stream 6).job = .closingFields (closeOf .flush 0x2100) ∧ (filling.stream 6).job = .filling buffer ∧
    (filling.stream 6).phase = .opened ∧ (starved.stream 6).phase = .starved ∧ (starved.stream 6).job = .filling buffer := by
  refine ⟨onLink_carries _ _, onLink_carries _ _, ?_⟩; decide +kernel

/-- CLOSING: with a slot left the record is held; with none, EMPTY is to be written back. -/
theorem witness_FillingAndFieldsWrites_closing :
    let filling := { reading with phase := .closing, job := .filling { buffer with filled := 0, stamp := none } }
    let write := fun w => streamAfter (.fillingWriteComplete .accepted) w (.fillingWrite 6)
    filling.phase = .closing ∧ filling.fifo = [] ∧ filling.inFlight = none ∧
    write { filling with fifo := [slot] } = (.closing, .none) ∧ write filling = (.closing, .emptyMark 0x2000) := by decide +kernel

theorem witness_SlotWriteMovesBuffer :
    let s := onLink (withStream { openStream with inFlight := some slot }) (.slotWrite 6)
    let last := { buffer with filled := 3 }
    s.carries (moving (.slotWrite 6)) (.slotWrite 6) ∧ (s.stream 6).phase = .opened ∧ (s.stream 6).current = some buffer ∧
    (s.stream 6).flushWaits = false ∧ buffer.filled + 1 < buffer.capacity ∧ last.filled + 1 = last.capacity ∧
    ((after (.slotWriteComplete .accepted) s).stream 6).current = some last := by
  refine ⟨onLink_carries _ _, ?_⟩; decide +kernel

/-- A flush waiting, in OPEN and CLOSING; and in CLOSING: a slot left, the last slot, the last place of the buffer, a failed slot. -/
theorem witness_SlotWriteMovesBuffer_closing :
    let writing := { openStream with phase := .closing, inFlight := some slot }
    let write := fun w => streamAfter (.slotWriteComplete .accepted) w (.slotWrite 6)
    let third := fun reason => RecordJob.closingFields ({ buffer with filled := 3 }.closeFor reason)
    (writing.current = some buffer ∧ buffer.filled + 1 < buffer.capacity ∧ writing.position = .holding ∧ writing.job = .none ∧
      writing.fifo ≠ [] ∧ writing.flushWaits = false) ∧
    write { writing with phase := .opened, flushWaits := true } = (.opened, third .flush) ∧
    write { writing with flushWaits := true } = (.closing, third .flush) ∧ write writing = (.closing, .none) ∧
    write { writing with fifo := [] } = (.closing, third .close) ∧
    write { writing with current := some { buffer with capacity := 3 } } = (.closing, third .capacity) ∧
    streamAfter (.slotWriteComplete .error) writing (.slotWrite 6) = (.closing, .closingFields (buffer.closeFor .fault)) := by
  decide +kernel

/-- OPEN with a flush waiting: the slot that fills the buffer closes it with CAPACITY, a failed one with FAULT. -/
theorem witness_SlotWriteMovesBuffer_flush :
    let writing := { openStream with inFlight := some slot, flushWaits := true }
    let full := { buffer with capacity := 3 }
    full.filled + 1 = full.capacity ∧
    streamAfter (.slotWriteComplete .accepted) { writing with current := some full } (.slotWrite 6) =
      (.opened, .closingFields ({ full with filled := 3 }.closeFor .capacity)) ∧
    streamAfter (.slotWriteComplete .error) writing (.slotWrite 6) = (.opened, .closingFields (buffer.closeFor .fault)) := by decide +kernel

theorem witness_FlushTimerExpiryClosesBuffer :
    let s := withStream openStream
    (s.stream 6).flushTimer = some s.time ∧ (s.stream 6).current = some buffer ∧ (s.stream 6).phase = .opened ∧
    (s.stream 6).inFlight = none ∧ ((withStream { openStream with inFlight := some slot }).stream 6).inFlight.isSome = true ∧
    ((after (.flushTimerExpiry 6) s).stream 6).position = .closingBuffer := by decide +kernel

theorem witness_MarkWriteMovesOn :
    let s := fun c => onLink (withStream { reading with job := .mark c, position := .closingBuffer }) (.markWrite 6)
    (s (closeOf .capacity 0x2100)).carries (moving (.markWrite 6)) (.markWrite 6) ∧
    ((s (closeOf .capacity 0x2100)).stream 6).job = .mark (closeOf .capacity 0x2100) ∧
    ((s (closeOf .capacity 0x2100)).stream 6).phase = .opened ∧ (closeOf .capacity 0x2100).nextRecord ≠ 0 ∧
    (closeOf .capacity 0x2100).reason ≠ .fault ∧ (closeOf .flush 0).nextRecord = 0 ∧ (closeOf .fault 0).reason = .fault ∧
    ((s (closeOf .fault 0)).stream 6).faultPolicy = .halt ∧
    ((after (.markWriteComplete .accepted) (s (closeOf .fault 0))).stream 6).phase = .halted ∧
    ((after (.markWriteComplete .accepted) (s (closeOf .flush 0))).stream 6).phase = .starved := by
  refine ⟨onLink_carries _ _, ?_⟩; decide +kernel

/-- FAULT under SKIP in OPEN, on to the next record and at end-of-chain; a close completing in CLOSING with an empty FIFO, at end-of-chain, and on
to the next record; and a bad record in STARVED under SKIP: the next record, end-of-chain, end-of-chain with a fetch that came meanwhile. -/
theorem witness_MarkWriteMovesOn_skip :
    let closing := fun (w : StreamWriter) c => { w with faultPolicy := .skip, notifyOnClose := true, job := .mark c }
    let write := fun w c => streamAfter (.markWriteComplete .accepted) (closing w c) (.markWrite 6)
    let last := (after (.markWriteComplete .accepted) (onLink (withStream (closing reading (closeOf .fault 0))) (.markWrite 6)))
    let draining := { reading with phase := .closing, fifo := [slot] }
    (∀ w c, (onLink (withStream (closing w c)) (.markWrite 6)).carries (moving (.markWrite 6)) (.markWrite 6) ∧
      (onLink (withStream (closing w c)) (.markWrite 6)).stream 6 = closing w c) ∧
    (write reading (closeOf .fault 0x2100) = (.opened, .read 0x2100) ∧ write reading (closeOf .fault 0) = (.starved, .none) ∧
      last.link.notice = 0b0001100#7 ∧ (last.stream 6).counters.buffersClosed = 1) ∧
    (write { draining with fifo := [] } (closeOf .close 0x2100) = (.closed, .none) ∧ write draining (closeOf .capacity 0) = (.closed, .none) ∧
      write draining (closeOf .fault 0x2100) = (.closing, .read 0x2100)) ∧
    write starved (closeOf .fault 0x2100) = (.starved, .read 0x2100) ∧ write starved (closeOf .fault 0) = (.starved, .none) ∧
    write { starved with recheck := some 0x3000 } (closeOf .fault 0) = (.starved, .read 0x3000) :=
  ⟨fun _ _ => ⟨onLink_carries _ _, rfl⟩, by decide +kernel, by decide +kernel, by decide +kernel, by decide +kernel, by decide +kernel⟩

theorem witness_EmptyMarkClosesAndWriteBackLeaves :
    (onLink (withStream openStream) (.emptyMarkWrite 6)).carries (moving (.emptyMarkWrite 6)) (.emptyMarkWrite 6) ∧
    (onLink (withStream openStream) (.streamWriteBack 6)).carries (moving (.streamWriteBack 6)) (.streamWriteBack 6) :=
  ⟨onLink_carries _ _, onLink_carries _ _⟩

theorem witness_RecordErrorHaltsStream :
    (onLink (withStream reading) (.bufferRecordRead 6)).carries (moving (.bufferRecordRead 6)) (moving (.bufferRecordRead 6)).kind ∧
    ends (.bufferRecordReadComplete .error) (.bufferRecordRead 6) = true ∧ errorOf (.bufferRecordReadComplete .error) = some .readError ∧
    ends (.markWriteComplete .error) (.markWrite 6) = true ∧ errorOf (.markWriteComplete .error) = some .writeError ∧
    ((after (.markWriteComplete .error) (onLink (withStream { reading with faultPolicy := .skip }) (.markWrite 6))).stream 6).phase = .halted ∧
    ((after (.bufferRecordReadComplete .error) (onLink (withStream reading) (.bufferRecordRead 6))).stream 6).phase = .halted := by
  refine ⟨onLink_carries _ _, ?_⟩; decide +kernel

/-! ### Witnesses: Transfer Arbiter and invariants -/

theorem witness_SlotChoice :
    chooseSlot (withStream openStream) (withStream openStream).slotRequests = some 6 ∧ ((withStream openStream).stream 6).slotWaiting = true := by
  decide +kernel

/-- A state with requests waiting at a free port, and what the grant puts on the port: kind, address less the base, size. -/
def asking (queue : List Requester) (s : State) : State := { s with arbiter := { Arbiter.reset with queue := queue } }
def granted (s : State) : Option (TransferKind × Addr × Nat) :=
  (after .transferGrant s).arbiter.port.map fun t => (t.kind, t.address, t.size)

/-- The Status Writer's and the Plan Fetcher's grants: station, lane 3's record, a write-back, the Station Block, a block of a load, each kind of
item; and a request withdrawn. -/
theorem witness_TransferGrantIssues :
    let s := running lockLane
    let owing : State := { s with status := { StatusWriter.reset with stationOwed := true, lanesOwed := (Vector.replicate 12 false).set 3 true } }
    let items := fun p : PendingSet => asking [.fetcher] (s.setPending p)
    let reads : State := { inDevice .loading State.reset with fetcher := { PlanFetcher.reset with loadRead := .wanted } }
    (∀ q t, (asking q t).arbiter.port = none ∧ (asking q t).arbiter.fresh = 0 ∧ (asking q t).arbiter.handedTo = none ∧
      (asking q t).arbiter.queue = q) ∧
    granted (asking [.status .station] owing) = some (.statusRecordWrite .station, 0x100, 128) ∧
    granted (asking [.status (.lane 3)] owing) = some (.statusRecordWrite (.lane 3), 0x5C0, 64) ∧
    granted (asking [.fetcher] (s.setAnswer 3 { SlotAnswer.reset with owed := true })) =
      some (.laneSlotWriteBack 3 SlotAnswer.reset.image.mark, 0x2F0, 16) ∧
    granted (asking [.fetcher] reads) = some (.stationBlockRead, 0, 256) ∧
    granted (asking [.fetcher] (withShadow (.filling (Vector.replicate 256 none) 3 false))) = some (.filterBlockRead 3, 0xF00, 256) ∧
    granted (items { PendingSet.empty with lanes := (Vector.replicate 12 false).set 3 true, filter := true }) = some (.laneSlotRead 3, 0x2C0, 64) ∧
    granted (items { PendingSet.empty with filter := true }) = some (.filterBlockRead 0, 0xC00, 256) ∧
    granted (items { PendingSet.empty with streams := (Vector.replicate 16 false).set 6 true }) = some (.streamRecordRead 6, 0x980, 64) ∧
    State.reset.hasTransfer .fetcher = false ∧ granted (asking [.fetcher, .status .station] owing) = granted (asking [.status .station] owing) :=
  ⟨fun _ _ => ⟨rfl, rfl, rfl, rfl⟩, by refine ⟨?station, ?lane, ?answer, ?load, ?block, ?items⟩ <;> decide +kernel⟩

/-- A Stream Writer's grants: each transfer of a Buffer Record, its write-back, and a slot write; and nothing waiting. -/
theorem witness_TransferGrantIssues_streams :
    let asks := fun w => asking [.stream 6] (withStream w)
    granted (asks reading) = some (.bufferRecordRead 6, 0x2000, 32) ∧
    granted (asks { reading with job := .filling buffer }) = some (.fillingWrite 6, 0x201F, 1) ∧
    granted (asks { reading with job := .closingFields (closeOf .flush 0) }) = some (.closingFieldsWrite 6, 0x2012, 13) ∧
    granted (asks { reading with job := .mark (closeOf .fault 0) }) = some (.markWrite 6, 0x201F, 1) ∧
    granted (asks { reading with job := .emptyMark 0x2000 }) = some (.emptyMarkWrite 6, 0x201F, 1) ∧
    granted (asks { openStream with owed := true }) = some (.streamWriteBack 6, 0x990, 48) ∧
    chooseSlot (withStream openStream) (withStream openStream).slotRequests = some 6 ∧ (withStream openStream).arbiter.queue = [] ∧
    granted (withStream openStream) = some (.slotWrite 6, 0x13F200180, 192) ∧
    (running lockLane).slotRequests = [] ∧ granted (running lockLane) = none := by decide +kernel

/-- An older head before a newer request; a new request racing a slot write; two slot writes, one of them the completed one's next. -/
theorem witness_TransferGrantIssues_races :
    let s : State := { withStream openStream with status := { StatusWriter.reset with stationOwed := true } }
    let older : State := { s with arbiter := { Arbiter.reset with queue := [.status .station, .stream 6], fresh := 1 } }
    let racing : State := { s with arbiter := { Arbiter.reset with queue := [.status .station], fresh := 1 } }
    let two : State := { s.setStream 9 openStream with arbiter := { Arbiter.reset with handedTo := some 6 } }
    (s.hasTransfer (.status .station) = true ∧ older.arbiter.fresh < older.arbiter.queue.length ∧ older.arbiter.fresh ≠ 0) ∧
    (racing.arbiter.fresh = racing.arbiter.queue.length ∧ racing.arbiter.queue ≠ [] ∧ racing.arbiter.handedTo = none ∧
      chooseSlot racing racing.slotRequests = some 6) ∧
    (two.arbiter.queue = [] ∧ two.arbiter.handedTo = some 6 ∧ chooseSlot two two.slotRequests = some 6 ∧
      chooseSlot two (two.slotRequests.filter fun k => k != 6) = some 9) := by decide +kernel

/-- R161: a slot write that frees the port races with the grant only when it lets its stream place a new class-2 request. -/
theorem test_completion_without_request :
    let freed := fun fifo => (after (.slotWriteComplete .accepted)
      (onLink (withStream { openStream with fifo := fifo, inFlight := some slot }) (.slotWrite 6))).arbiter.handedTo
    freed [slot] = some 6 ∧ freed [] = none := by decide +kernel

theorem witness_RequestsKeptSingle : RequestsSingle (running lockLane) ∧ step (running lockLane) = .next (running lockLane) :=
  ⟨⟨List.nodup_nil, fun _ _ h => (nomatch h)⟩, rfl⟩

theorem witness_CapacitiesKept :
    QueuesBounded (queued 24 lockLane) ∧ BaseAligned (queued 24 lockLane) ∧ step (queued 24 lockLane) = .next (queued 24 lockLane) := by
  have fifos : ∀ n : StreamId, ((queued 24 lockLane).stream n).fifo.length ≤ 32 := by decide +kernel
  exact ⟨⟨by decide +kernel, rfl, fifos⟩, by unfold BaseAligned; decide +kernel, rfl⟩

/-- In STOPPING: a CLOSED stream whose write-back carries its counters, beside one that still owes it. -/
theorem witness_CapacitiesKept_rest :
    let s := inDevice .stopping (withStream { StreamWriter.reset with counters := { StreamCounters.zero with withheld := 1 }, owed := true })
    StreamsAtRest s ∧ s.link.device = .stopping ∧ (s.stream 6).counters ≠ (s.stream 6).reported ∧ step s = .next s := by
  refine ⟨fun n => ⟨?rest, ?starved, fun _ h => nomatch h.1⟩, rfl, by decide +kernel, rfl⟩
  · revert n; decide +kernel
  · revert n; decide +kernel

/-! ### Witnesses: device states and registers -/

theorem witness_RunWritesMoveDevice :
    (inDevice .idle State.reset).link.device = .idle ∧ (inDevice .loading State.reset).link.device = .loading ∧
    (inDevice .faulted State.reset).link.device = .faulted ∧ (inDevice .stopping State.reset).link.device = .stopping ∧
    (running lockLane).link.device = .running ∧ ((after .runClear (running lockLane)).lane 3).phase = .off := by decide +kernel

/-- Streams, the survey tap and a table being filled at the start of STOPPING, with and without a read of the table in flight, and a ready one. -/
theorem witness_RunWritesMoveDevice_stop :
    let filling := withShadow (.filling (Vector.replicate 256 none) 3 false)
    let reads := onLink filling (.filterBlockRead 3)
    let ready := withShadow (.ready (Vector.replicate 256 none))
    (((after .runClear (withStream openStream)).stream 6).phase = .closing ∧
      ((after .runClear (withStream { starved with fifo := [slot] })).stream 6).job = .read 0x2000 ∧
      ((after .runClear (withStream { starved with fifo := [slot], position := .waitingAtEnd })).stream 6).counters.droppedStarved = 1 ∧
      ((after .runClear (withStream { StreamWriter.reset with phase := .halted })).stream 6).phase = .halted) ∧
    (dwelling 2 3 false).link.device = .running ∧ (after .runClear (dwelling 2 3 false)).survey.tap = .idle ∧
    (filling.inFlight = none ∧ (after .runClear filling).router.shadow = .none) ∧
    (reads.inFlight = some (.filterBlockRead 3) ∧ (after .runClear reads).router.shadow = filling.router.shadow) ∧
    (after .runClear ready).router.shadow = ready.router.shadow := by decide +kernel

/-- Owed answers at the start of STOPPING (R114): an ACCEPTED one never issued is not written, a TAKEN and a REFUSED one still are; no Status
Record becomes owed (R68). -/
theorem witness_RunWritesMoveDevice_answers :
    let owing := fun mark => (running lockLane).setAnswer 3
      { lastAnswered := some 9, image := { mark := mark, appliedTag := 9, reason := .none, adjusted := 0, timeAtTake := 7 }, owed := true }
    let stopped := fun mark => after .runClear (owing mark)
    ((owing .accepted).answer 3).owed = true ∧ ((stopped .accepted).answer 3).owed = false ∧
    ((stopped .taken).answer 3).owed = true ∧ ((stopped .refused).answer 3).owed = true ∧
    (stopped .taken).status.stationOwed = false ∧ (stopped .taken).status.lanesOwed = Vector.replicate 12 false := by decide +kernel

/-- At the start of STOPPING a CLOSED stream that has counted a packet since its last write-back owes one, and asks for it (R156). -/
theorem witness_RunWritesMoveDevice_counts :
    let late := withStream { StreamWriter.reset with counters := { StreamCounters.zero with droppedClosed := 3 } }
    (late.stream 6).counters ≠ (late.stream 6).reported ∧ ((after .runClear late).stream 6).owed = true ∧
    (after .runClear late).outstanding (.stream 6) = true ∧ ((after .runClear late).stream 5).owed = false := by decide +kernel

/-- A part in LOADING with its read on the link, and three Station Blocks. -/
def loading : State :=
  onLink (inDevice .loading { State.reset with fetcher := { PlanFetcher.reset with loadRead := .issued } }) .stationBlockRead
def goodBlock : Vector Byte 256 := (((Vector.replicate 256 0).set 0 1).set 2 0x44).set 3 0x4B |>.set 4 1
def wrongVersion : Vector Byte 256 := goodBlock.set 4 2
def wrongSignature : Vector Byte 256 := goodBlock.set 0 2

theorem witness_StationBlockReadEndsLoad :
    loading.carries (moving .stationBlockRead) .stationBlockRead ∧ loading.link.device = .loading ∧ loading.fetcher.loadRead = .issued ∧
    field goodBlock 0 4 = 0x4B440001 ∧ field goodBlock 4 2 = 1 ∧ field wrongVersion 0 4 = 0x4B440001 ∧ field wrongVersion 4 2 ≠ 1 ∧
    field wrongSignature 0 4 ≠ 0x4B440001 ∧ (after (.stationBlockReadComplete (.data goodBlock)) loading).link.device = .running := by
  refine ⟨onLink_carries _ _, ?_⟩; decide +kernel

/-- The read of an abandoned load, in IDLE and with a newer load wanting its own read. -/
theorem witness_StationBlockReadEndsLoad_abandoned :
    let idle := onLink State.reset .stationBlockRead
    let newer := onLink (inDevice .loading { State.reset with fetcher := { PlanFetcher.reset with loadRead := .wanted } }) .stationBlockRead
    (idle.carries (moving .stationBlockRead) .stationBlockRead ∧ idle.link.device ≠ .loading) ∧
    (newer.carries (moving .stationBlockRead) .stationBlockRead ∧ newer.fetcher.loadRead ≠ .issued) ∧
    (after (.stationBlockReadComplete (.data goodBlock)) newer).link.device = .loading ∧
    (after (.stationBlockReadComplete (.data goodBlock)) newer).arbiter.queue = [.fetcher] :=
  ⟨⟨onLink_carries _ _, by decide⟩, ⟨onLink_carries _ _, by decide⟩, by decide +kernel, by decide +kernel⟩

/-- Section 2.7's entries 0 and 7 in a Station Block, entry 5 with its invalid Pexp, and trims beyond their range. -/
theorem witness_StationBlockReadEndsLoad_settings :
    let block := ((((((((((goodBlock.set 8 0xE0).set 9 0x10).set 12 2).set 16 1).set 17 3).set 19 0x22).set 20 2).set 21 4).set 22 2).set 56 1)
      |>.set 57 1 |>.set 58 0x28 |>.set 59 0x0A |>.set 72 1 |>.set 73 2 |>.set 75 0x12 |>.set 77 40
    let g := settingsOf block
    g.modes[(0 : EntryId)] = some entry0 ∧
    g.modes[(7 : EntryId)] = some { carrier := .k4, period := 4608, tolerance := 1, matchCount := 32, missCount := 1 } ∧
    g.modes[(5 : EntryId)] = none ∧ g.rejected = 0x20#8 ∧ g.trimA = -16 ∧ g.trimB = 15 ∧ g.surveyOrder = .arrival ∧ g.adjusted = 0x603#16 := by
  decide +kernel

/-- A part in STOPPING with everything drained. -/
def drained : State := inDevice .stopping State.reset

/-- A newer request with no slot waiting; a lone stream whose completion freed the port; and both at once, with another stream waiting. -/
theorem witness_TransferGrantIssues_alone :
    let s : State := { running lockLane with status := { StatusWriter.reset with stationOwed := true } }
    let fresh : State := { s with arbiter := { Arbiter.reset with queue := [.status .station], fresh := 1 } }
    let lone : State := { withStream openStream with arbiter := { Arbiter.reset with handedTo := some 6 } }
    let both : State := { fresh with
      streams := ((withStream openStream).setStream 9 openStream).streams, arbiter := { fresh.arbiter with handedTo := some 6 } }
    (fresh.arbiter.port = none ∧ fresh.arbiter.fresh ≠ 0 ∧ fresh.arbiter.fresh = fresh.arbiter.queue.length ∧ fresh.slotRequests = []) ∧
    (lone.arbiter.queue = [] ∧ lone.arbiter.fresh = 0 ∧ lone.arbiter.handedTo = some 6 ∧ chooseSlot lone lone.slotRequests = some 6 ∧
      lone.slotRequests.filter (fun k => k != 6) = []) ∧
    (both.arbiter.queue ≠ [] ∧ both.arbiter.fresh = both.arbiter.queue.length ∧ both.arbiter.handedTo = some 6 ∧
      chooseSlot both both.slotRequests = some 6 ∧ chooseSlot both (both.slotRequests.filter fun k => k != 6) = some 9) := by decide +kernel

theorem witness_ThirteenRecordsOwed :
    ({ running lockLane with status := { StatusWriter.reset with intervalTimer := some 50000 } } : State).status.intervalTimer = some (running lockLane).time ∧
    (running lockLane).station.statusInterval ≠ 0 ∧ drained.link.device = .stopping ∧ drained.status.finalGroup = false ∧
    drained.router.queue = [] ∧ drained.router.inHand = none ∧ drained.router.shadow = .none ∧
    (∀ n, (drained.stream n).phase = .closed ∧ (drained.stream n).job = .none ∧ (drained.stream n).owed = false ∧
      (drained.stream n).inFlight = none ∧ (drained.stream n).slotWaiting = false) ∧
    (∀ n, (drained.answer n).owed = false) ∧ drained.arbiter.queue = [] ∧ drained.arbiter.port = none ∧
    (after .stopComplete drained).arbiter.queue.head? = some (.status .station) := by decide +kernel

/-- A packet queued, a shadow ready, a stream CLOSING, a write-back owed, a Lane Slot answer owed, a request waiting, a busy port, the final group
begun: none of them lets the stop complete. -/
theorem witness_ThirteenRecordsOwed_waits :
    let held : List State := [
      { drained with router := { Router.reset with queue := [packet false] } },
      { drained with router := { Router.reset with shadow := .ready (Vector.replicate 256 none) } },
      drained.setStream 6 { StreamWriter.reset with phase := .closing, position := .betweenBuffers },
      drained.setStream 6 { StreamWriter.reset with owed := true },
      drained.setAnswer 3 { SlotAnswer.reset with owed := true },
      asking [.status .station] drained, onLink drained (.slotWrite 6),
      { drained with status := { drained.status with finalGroup := true } }]
    ∀ s ∈ held, s.link.device = .stopping ∧ (after .stopComplete s).status.stationOwed = s.status.stationOwed ∧
      (after .stopComplete s).status.finalGroup = s.status.finalGroup := by decide +kernel

theorem witness_StatusRecordWriteEnds :
    let s := onLink { drained with status := { StatusWriter.reset with finalGroup := true } } (.statusRecordWrite (.lane 11))
    s.carries (moving (.statusRecordWrite (.lane 11))) (.statusRecordWrite (.lane 11)) ∧ s.link.device = .stopping ∧
    s.status.finalGroup = true ∧ s.arbiter.queue = [] ∧ s.status.stationOwed = false ∧ (∀ n : LaneId, s.status.lanesOwed[n] = false) ∧
    (onLink (running lockLane) (.statusRecordWrite (.lane 11))).status.finalGroup = false ∧
    (after (.statusRecordWriteComplete .accepted) s).link.device = .idle := by
  refine ⟨onLink_carries _ _, ?_⟩; decide +kernel

/-- The last write of the final group with a WRITE_ERROR; and one after which lane 5's record is still owed. -/
theorem witness_StatusRecordWriteEnds_error :
    let final := { drained with status := { StatusWriter.reset with finalGroup := true } }
    let more := { final with status := { final.status with lanesOwed := (Vector.replicate 12 false).set 5 true } }
    let ends := fun s result => after (.statusRecordWriteComplete result) (onLink s (.statusRecordWrite .station))
    (ends final .error).link.device = .idle ∧ (ends final .error).link.linkErrors = 1 ∧
    more.status.lanesOwed[(5 : LaneId)] = true ∧ (ends more .accepted).link.device = .stopping ∧ (ends more .error).link.linkErrors = 1 := by
  decide +kernel

theorem witness_AttentionAddsItems :
    (running lockLane).link.device = .running ∧ (inDevice .loading State.reset).link.device = .loading ∧
    State.reset.link.device = .idle ∧ (running lockLane).router.shadow = .none ∧
    (withShadow (.filling (Vector.replicate 256 none) 3 false)).router.shadow = .filling (Vector.replicate 256 none) 3 false ∧
    (withShadow (.filling (Vector.replicate 256 none) 3 false)).inFlight = none ∧
    (onLink (withShadow (.filling (Vector.replicate 256 none) 3 false)) (.filterBlockRead 3)).inFlight = some (.filterBlockRead 3) := by
  decide +kernel

theorem witness_ExchangeBaseWrites :
    State.reset.link.device = .idle ∧ (running lockLane).link.device ≠ .idle ∧ (running lockLane).link.device ≠ .faulted ∧
    (after (.exchangeBaseLow 0x12345FFF#32) State.reset).link.base = 0x12345000#64 ∧
    (after (.exchangeBaseHigh 0xFF#32) State.reset).link.base = 0xFF00000000#64 := by decide +kernel

theorem witness_NoticeWrites :
    (∀ i, i < 7 → (State.reset.link.notice.getLsbD i && State.reset.link.enable.getLsbD i) = false) ∧
    (((running lockLane).raise .plan).link.notice.getLsbD 0 && (1#32).getLsbD 0) = true ∧
    (let both := (after (.noticeEnable 1) ((running lockLane).raise .plan)); (both.link.notice.getLsbD 0 && both.link.enable.getLsbD 0) = true) := by
  decide +kernel

/-- A raise of FAULT (bit 5): enabled with no enabled cause set, enabled with PLAN set and enabled, and not enabled. -/
theorem witness_NoticeWrites_raise :
    let enabled := fun bits => (after (.noticeEnable bits) (running lockLane))
    ((enabled 0x20).link.enable.getLsbD 5 = true ∧ ((enabled 0x20).raise .fault).output.messages = 1) ∧
    ((((enabled 0x21).raise .plan).link.notice.getLsbD 0 && ((enabled 0x21).raise .plan).link.enable.getLsbD 0) = true ∧
      (((enabled 0x21).raise .plan).raise .fault).output.messages = 1) ∧
    ((enabled 1).link.enable.getLsbD 5 = false ∧ ((enabled 1).raise .fault).output.messages = 0) := by decide +kernel

/-- Host writes at their boundaries: bit 29 and bit 30 of Attention, bit 6 and bit 7 of Notice, and an offset that holds no register. -/
theorem witness_RegisterWindow_writes :
    registerWrite 0x10#8 0x20000000#32 = [.attentionStatusNow] ∧
    registerWrite 0x10#8 0x40000000#32 = [.registerWriteIgnored 0x10#8 0x40000000#32] ∧ registerWrite 0x14#8 0x40#32 = [.noticeClear 0x40#32] ∧
    registerWrite 0x14#8 0x80#32 = [.registerWriteIgnored 0x14#8 0x80#32] ∧ registerWrite 0x04#8 1#32 = [.runSet] ∧
    registerWrite 0x10#8 0x1800#32 = [.attentionLane 11, .attentionStream 0] ∧ registerWrite 0x1C#8 1#32 = [] := by decide

/-- A write that is ignored; the high half of the Exchange Base as read; the ends of the layouts' ranges. -/
theorem witness_RegisterWindow :
    (Instr.registerWriteIgnored 0x00#8 7#32).wellFormed = true ∧
    (after (.exchangeBaseHigh 0xFF#32) State.reset).readRegister 0x0C#8 = some 0xFF#32 ∧ lockLane.tracker.qi ≤ 127 ∧
    writtenField (laneRecordBytes lockLane (some 127) 5) 0x07 1 = 50 ∧ writtenField (laneRecordBytes lockLane (some 127) 5) 0x09 1 = 127 ∧
    writtenField slot.bytes192 0 4 = 0x483 ∧ (closeOf .flush 0).filled ≤ 4096 := by decide +kernel

end Sys2Proof.Tests
end

section
namespace Sys2Proof.Machine

/-! PROOFS. The masts, the taps, the lanes and the Survey Unit (spec/01, 04, 05): rules for the reception side of the part, then the statements
of the family of spec/01 that rest on them. -/

/-! ### The reception side: what its soundness speaks of -/

/-- The Station Timer, and all that `ReceptionSound` and `SurveySettled` read. -/
def State.reception (s : State) : Time × StationSettings × Vector Lane 12 × SurveyUnit × DeviceState :=
  (s.time, s.station, s.lanes, s.survey, s.link.device)

theorem State.reception_eq_iff {s t : State} : t.reception = s.reception ↔
    t.time = s.time ∧ t.station = s.station ∧ t.lanes = s.lanes ∧ t.survey = s.survey ∧ t.link.device = s.link.device := by
  simp only [State.reception, Prod.mk.injEq]

/-! ### The Survey Unit: choosing a request (R81) -/

theorem lowestLane_eq_none {rs : List SurveyRequest} (h : lowestLane rs = none) : rs = [] := by
  cases rs with
  | nil => rfl
  | cons r rs =>
    simp only [lowestLane] at h
    split at h
    · cases h
    · split at h <;> cases h

theorem lowestLane_mem {rs : List SurveyRequest} {r : SurveyRequest} (h : lowestLane rs = some r) : r ∈ rs := by
  induction rs with
  | nil => cases h
  | cons a as ih =>
    simp only [lowestLane] at h
    split at h
    · cases h
      exact List.mem_cons_self
    · split at h <;> cases h
      · exact List.mem_cons_of_mem _ (ih ‹_›)
      · exact List.mem_cons_self

theorem pickByOrder_eq_none {order : SurveyOrder} {rs : List SurveyRequest} (h : pickByOrder order rs = none) : rs = [] := by
  cases order with
  | arrival => exact List.head?_eq_none_iff.1 h
  | lane => exact lowestLane_eq_none h

theorem pickByOrder_mem {order : SurveyOrder} {rs : List SurveyRequest} {r : SurveyRequest}
    (h : pickByOrder order rs = some r) : r ∈ rs := by
  cases order with
  | arrival => exact List.mem_of_head? h
  | lane => exact lowestLane_mem h

/-- A choice is made whenever a request waits. -/
theorem chooseRequest_eq_none {order : SurveyOrder} {rs : List SurveyRequest} (h : chooseRequest order rs = none) : rs = [] := by
  unfold chooseRequest at h
  split at h
  · cases h
  · rename_i noFade
    have fades := List.filter_eq_nil_iff.1 (pickByOrder_eq_none noFade)
    have locks := List.filter_eq_nil_iff.1 (pickByOrder_eq_none h)
    refine List.eq_nil_iff_forall_not_mem.2 fun r hr => ?_
    have notFade := fades r hr
    have notLock := locks r hr
    cases hc : r.cls <;> simp [hc] at notFade notLock

/-- The request chosen is one that waits, and FADE-class if any such waits. -/
theorem chooseRequest_some {order : SurveyOrder} {rs : List SurveyRequest} {r : SurveyRequest} (h : chooseRequest order rs = some r) :
    r ∈ rs ∧ (r.cls = .lock → ∀ q ∈ rs, q.cls = .lock) := by
  unfold chooseRequest at h
  split at h
  · rename_i picked
    cases h
    obtain ⟨hr, fade⟩ := List.mem_filter.1 (pickByOrder_mem picked)
    refine ⟨hr, fun lock => ?_⟩
    rw [lock] at fade
    cases fade
  · rename_i noFade
    refine ⟨(List.mem_filter.1 (pickByOrder_mem h)).1, fun _ q hq => ?_⟩
    have notFade := List.filter_eq_nil_iff.1 (pickByOrder_eq_none noFade) q hq
    cases hc : q.cls
    · rfl
    · simp [hc] at notFade

/-! ### The Survey Unit: the lanes with a request (R73, R79) -/

theorem State.mem_surveyed (s : State) (n : LaneId) :
    n ∈ s.surveyed ↔ (∃ r ∈ s.survey.queue, r.lane = n) ∨ ∃ d, s.survey.dwell = some d ∧ d.lane = n := by
  simp only [State.surveyed, List.mem_append, List.mem_map, Option.mem_toList, Option.map_eq_some_iff]

theorem State.hasRequest_iff (s : State) (n : LaneId) : s.hasRequest n = true ↔ n ∈ s.surveyed := by
  rw [State.mem_surveyed]
  unfold State.hasRequest
  cases hd : s.survey.dwell <;> simp

theorem State.eligible_iff (s : State) (r : SurveyRequest) : s.eligible r = true ↔ (s.lane r.lane).switchOrder = none :=
  Option.isNone_iff_eq_none

/-- The part of `ReceptionSound` that is about the Survey Unit (R7, R73, R79). -/
structure SurveyKept (s : State) : Prop where
  single : s.surveyed.Nodup
  surveyable : ∀ n ∈ s.surveyed, (s.lane n).surveyable
  tap : SurveyTapSound s

theorem SurveyKept.queue_surveyable {s : State} (h : SurveyKept s) {r : SurveyRequest} (hr : r ∈ s.survey.queue) :
    (s.lane r.lane).surveyable :=
  h.surveyable _ ((s.mem_surveyed _).2 (.inl ⟨r, hr, rfl⟩))

theorem SurveyKept.dwell_surveyable {s : State} (h : SurveyKept s) {d : Dwell} (hd : s.survey.dwell = some d) :
    (s.lane d.lane).surveyable :=
  h.surveyable _ ((s.mem_surveyed _).2 (.inr ⟨d, hd, rfl⟩))

/-- With no dwell running, what the Survey Unit keeps is about its queue and the idle tap alone. -/
theorem SurveyKept.of_no_dwell {s : State} (dwell : s.survey.dwell = none) (single : (s.survey.queue.map SurveyRequest.lane).Nodup)
    (surveyable : ∀ r ∈ s.survey.queue, (s.lane r.lane).surveyable) (tap : s.survey.tap.setting = none) : SurveyKept s where
  single := by simpa [State.surveyed, dwell] using single
  surveyable n hn := by
    simp only [s.mem_surveyed, dwell, reduceCtorEq, false_and, exists_false, or_false] at hn
    obtain ⟨r, hr, rfl⟩ := hn
    exact surveyable r hr
  tap := by simpa [SurveyTapSound, dwell] using tap

/-! ### The Survey Unit: a choice, a preemption (R80, R82, R86) -/

/-- A dwell that starts for a waiting eligible request moves it from the queue into the dwell. -/
theorem SurveyKept.startDwell {s : State} {r : SurveyRequest} (h : SurveyKept s) (idle : s.survey.dwell = none)
    (waits : r ∈ s.survey.queue) (eligible : s.eligible r = true) :
    SurveyKept (s.startDwell r) ∧ (s.startDwell r).survey.queue = s.survey.queue.erase r ∧
      ∃ d, (s.startDwell r).survey.dwell = some d ∧ d.cls = r.cls := by
  obtain ⟨-, p, hp, -⟩ := h.queue_surveyable waits
  rcases s.startDwell_cases r with ⟨none, -⟩ | ⟨q, mast, hq, hmast, started⟩
  · rw [hp] at none
    cases none
  · have moved : (s.startDwell r).surveyed.Perm s.surveyed := by
      rw [started]
      simp only [State.surveyed, idle, Option.map_some, Option.map_none, Option.toList_some, Option.toList_none, List.append_nil]
      exact (List.perm_append_comm).trans ((List.perm_cons_erase waits).map SurveyRequest.lane).symm
    refine ⟨⟨moved.nodup_iff.2 h.single, fun n hn => ?_, ?_⟩, by rw [started], ?_⟩
    · have := h.surveyable n (moved.mem_iff.1 hn)
      rw [started]
      exact this
    · rw [started]
      exact ⟨hmast, (s.eligible_iff r).1 eligible, q, hq, rfl⟩
    · rw [started]
      exact ⟨_, rfl, rfl⟩

theorem SurveyKept.preempt {s : State} (h : SurveyKept s) : SurveyKept s.preempt := by
  unfold State.preempt
  split
  · exact h
  · rename_i d hd
    split
    · refine .of_no_dwell rfl ?_ ?_ rfl
      · have := h.single
        simp only [State.surveyed, hd, Option.map_some, Option.toList_some] at this
        exact (List.perm_append_comm.nodup_iff).1 this
      · intro r hr
        rcases List.mem_cons.1 hr with rfl | hr
        · exact h.dwell_surveyable hd
        · exact h.queue_surveyable hr
    · exact h

/-- After the look for a preemption no LOCK-class dwell stands in the way of an eligible FADE-class request of another lane. -/
theorem State.preempt_lets (s : State) (d : Dwell) (hd : s.preempt.survey.dwell = some d) (lock : d.cls = .lock) :
    ∀ r ∈ s.preempt.survey.queue, r.cls = .fade → r.lane ≠ d.lane → (s.preempt.lane r.lane).switchOrder.isSome = true := by
  intro r hr fade other
  unfold State.preempt at hd hr ⊢
  split at hd
  · rename_i none
    rw [none] at hd
    cases hd
  · rename_i e he
    simp only [he] at hr ⊢
    split at hd
    · cases hd
    · rename_i stays
      rw [if_neg stays] at hr ⊢
      cases he.symm.trans hd
      simp only [lock, Bool.and_eq_true, beq_self_eq_true, true_and, List.any_eq_true, not_exists, not_and] at stays
      have refused : ¬s.eligible r = true := stays r hr (by simp [fade, other])
      rw [s.eligible_iff] at refused
      exact Option.isSome_iff_ne_none.2 refused

theorem SurveyKept.chooseSurvey {s : State} (h : SurveyKept s)
    (lets : ∀ d, s.survey.dwell = some d → d.cls = .lock → ∀ r ∈ s.survey.queue, r.cls = .fade → r.lane ≠ d.lane →
      (s.lane r.lane).switchOrder.isSome = true) : SurveyKept s.chooseSurvey ∧ SurveySettled s.chooseSurvey := by
  unfold State.chooseSurvey
  split
  · rename_i d hd
    refine ⟨h, fun none => ?_, lets⟩
    rw [hd] at none
    cases none
  · rename_i idle
    split
    · rename_i none
      refine ⟨h, fun _ r hr => ?_, fun d hd => ?_⟩
      · have refused := List.filter_eq_nil_iff.1 (chooseRequest_eq_none none) r hr
        rw [s.eligible_iff] at refused
        exact Option.isSome_iff_ne_none.2 refused
      · rw [idle] at hd
        cases hd
    · rename_i r chosen
      obtain ⟨hr, first⟩ := chooseRequest_some chosen
      obtain ⟨waits, eligible⟩ := List.mem_filter.1 hr
      obtain ⟨kept, queue, d, hd, cls⟩ := h.startDwell idle waits eligible
      have lanes (m : LaneId) : (s.startDwell r).lane m = s.lane m := by
        have same := congrArg (fun t : State => t.lane m) (s.startDwell_frame r)
        exact same
      refine ⟨kept, fun none => ?_, fun e he lock q hq fade _ => ?_⟩
      · rw [hd] at none
        cases none
      · rw [lanes]
        cases hd.symm.trans he
        rw [queue] at hq
        refine Option.isSome_iff_ne_none.2 fun none => ?_
        have := first (cls ▸ lock) q (List.mem_filter.2 ⟨List.mem_of_mem_erase hq, (s.eligible_iff q).2 none⟩)
        rw [fade] at this
        cases this

/-- Whatever the requests and their eligibility, the Survey Unit is settled once it has looked at them. -/
theorem SurveyKept.surveySettle {s : State} (h : SurveyKept s) : SurveyKept s.surveySettle ∧ SurveySettled s.surveySettle :=
  h.preempt.chooseSurvey s.preempt_lets

end Sys2Proof.Machine
end

section
namespace Sys2Proof.Machine

/-! ### The Survey Unit when a lane changes -/

/-- What the Survey Unit keeps of the state, with `SurveySettled` where `settled` asks for it. -/
def SurveyFine (settled : Prop) (s : State) : Prop :=
  SurveyKept s ∧ (settled → SurveySettled s)

theorem SurveyKept.settle_fine {settled : Prop} {s : State} (h : SurveyKept s) : SurveyFine settled s.surveySettle :=
  ⟨h.surveySettle.1, fun _ => h.surveySettle.2⟩

theorem State.lane_congr {s t : State} (lanes : t.lanes = s.lanes) (n : LaneId) : t.lane n = s.lane n := by
  simp only [State.lane, lanes]

theorem SurveyKept.congr {s t : State} (lanes : t.lanes = s.lanes) (survey : t.survey = s.survey) (h : SurveyKept s) : SurveyKept t where
  single := by simpa only [State.surveyed, survey] using h.single
  surveyable := by simpa only [State.surveyed, survey, State.lane_congr lanes] using h.surveyable
  tap := by simpa only [SurveyTapSound, survey, State.lane_congr lanes] using h.tap

theorem SurveySettled.congr {s t : State} (lanes : t.lanes = s.lanes) (survey : t.survey = s.survey) (h : SurveySettled s) :
    SurveySettled t := by
  simpa only [SurveySettled, survey, State.lane_congr lanes] using h

theorem SurveyFine.congr {settled : Prop} {s t : State} (lanes : t.lanes = s.lanes) (survey : t.survey = s.survey)
    (h : SurveyFine settled s) : SurveyFine settled t :=
  ⟨h.1.congr lanes survey, fun asked => (h.2 asked).congr lanes survey⟩

/-- To the Survey Unit `l'` is as `l`: still surveyable, on the same channel and mast, with the same switch order. -/
structure Lane.SurveyAlike (l l' : Lane) : Prop where
  surveyable : l'.surveyable
  mast : l'.activeMast = l.activeMast
  order : l'.switchOrder = l.switchOrder
  channel : ∀ p, l.applied = some p → ∃ q, l'.applied = some q ∧ q.centre = p.centre ∧ q.bandwidth = p.bandwidth

/-- A change that keeps plan, mast and switch order and leaves the lane delivering is none to the Survey Unit. -/
theorem Lane.SurveyAlike.of_same {l l' : Lane} (h : l.surveyable) (delivers : l'.phase.delivers = true) (applied : l'.applied = l.applied)
    (mast : l'.activeMast = l.activeMast) (order : l'.switchOrder = l.switchOrder) : l.SurveyAlike l' where
  surveyable := ⟨delivers, applied ▸ h.2⟩
  mast := mast
  order := order
  channel p hp := ⟨p, applied ▸ hp, rfl, rfl⟩

theorem SurveyKept.setLane {s : State} {n : LaneId} {l : Lane} (h : SurveyKept s)
    (alike : n ∈ s.surveyed → (s.lane n).SurveyAlike l) : SurveyKept (s.setLane n l) where
  single := h.single
  surveyable m hm := by
    by_cases same : n = m
    · subst same
      rw [State.setLane_lane_self]
      exact (alike hm).surveyable
    · rw [State.setLane_lane_ne s l same]
      exact h.surveyable m hm
  tap := by
    have tap := h.tap
    unfold SurveyTapSound at tap ⊢
    rw [State.setLane_survey]
    split
    · rename_i none
      simpa only [none] using tap
    · rename_i d hd
      simp only [hd] at tap
      obtain ⟨mast, order, p, hp, set⟩ := tap
      by_cases same : n = d.lane
      · subst same
        have view := alike ((s.mem_surveyed _).2 (.inr ⟨d, hd, rfl⟩))
        obtain ⟨q, hq, centre, bandwidth⟩ := view.channel p hp
        rw [State.setLane_lane_self, view.mast, view.order]
        exact ⟨mast, order, q, hq, by rw [centre, bandwidth]; exact set⟩
      · rw [State.setLane_lane_ne s l same]
        exact ⟨mast, order, p, hp, set⟩

theorem SurveySettled.setLane {s : State} {n : LaneId} {l : Lane} (h : SurveySettled s)
    (same : n ∈ s.surveyed → l.switchOrder = (s.lane n).switchOrder) : SurveySettled (s.setLane n l) := by
  have order : ∀ r ∈ s.survey.queue, ((s.setLane n l).lane r.lane).switchOrder = (s.lane r.lane).switchOrder := by
    intro r hr
    by_cases own : n = r.lane
    · subst own
      rw [State.setLane_lane_self]
      exact same ((s.mem_surveyed _).2 (.inl ⟨r, hr, rfl⟩))
    · rw [State.setLane_lane_ne s l own]
  refine ⟨fun none r hr => ?_, fun d hd lock r hr fade other => ?_⟩
  · rw [order r hr]
    exact h.1 none r hr
  · rw [order r hr]
    exact h.2 d hd lock r hr fade other

theorem SurveyFine.setLane {settled : Prop} {s : State} {n : LaneId} {l : Lane} (h : SurveyFine settled s)
    (alike : n ∈ s.surveyed → (s.lane n).SurveyAlike l) : SurveyFine settled (s.setLane n l) :=
  ⟨h.1.setLane alike, fun asked => (h.2 asked).setLane fun surveyed => (alike surveyed).order⟩

/-! ### Withdrawing, filing and upgrading a request (R76 to R78) -/

/-- However lane n changes, once its request is taken out the rest is kept. -/
theorem SurveyKept.setLane_dropRequest {s : State} {n : LaneId} {l : Lane} (h : SurveyKept s) :
    SurveyKept ((s.setLane n l).dropRequest n) := by
  have others : ∀ r ∈ s.survey.queue.filter (fun r => r.lane != n), ((s.setLane n l).lane r.lane).surveyable := by
    intro r hr
    obtain ⟨waits, other⟩ := List.mem_filter.1 hr
    rw [State.setLane_lane_ne s l (by simpa using Ne.symm (bne_iff_ne.1 other))]
    exact h.queue_surveyable waits
  have fewer : ((s.survey.queue.filter fun r => r.lane != n).map SurveyRequest.lane).Sublist (s.survey.queue.map SurveyRequest.lane) :=
    List.filter_sublist.map _
  have single := h.single
  have tap := h.tap
  unfold State.dropRequest
  unfold State.surveyed at single
  unfold SurveyTapSound at tap
  cases hd : s.survey.dwell with
  | none =>
    simp only [State.setLane_survey, hd]
    simp only [hd] at tap
    exact .of_no_dwell rfl ((List.nodup_append.1 single).1.sublist fewer) others tap
  | some d =>
    simp only [State.setLane_survey, hd]
    simp only [hd, Option.map_some, Option.toList_some] at tap single
    split
    · exact .of_no_dwell rfl ((List.nodup_append.1 single).1.sublist fewer) others rfl
    · rename_i other
      have away : n ≠ d.lane := by simpa using Ne.symm (by simpa using other)
      refine ⟨single.sublist (fewer.append (.refl _)), fun m hm => ?_, ?_⟩
      · rcases (State.mem_surveyed _ m).1 hm with ⟨r, hr, rfl⟩ | ⟨e, he, rfl⟩
        · exact others r hr
        · cases he
          exact (congrArg Lane.surveyable (State.setLane_lane_ne s l away)).mpr (h.dwell_surveyable hd)
      · obtain ⟨mast, order, p, hp, set⟩ := tap
        have same := State.setLane_lane_ne s l away
        exact ⟨(congrArg (fun k : Lane => d.mast = opposite k.activeMast) same).mpr mast,
          (congrArg (fun k : Lane => k.switchOrder = none) same).mpr order, p,
          (congrArg (fun k : Lane => k.applied = some p) same).mpr hp, set⟩

/-- However lane n changes, once its request is withdrawn the Survey Unit is as before (R78). -/
theorem SurveyFine.setLane_withdrawRequest {settled : Prop} {s : State} {n : LaneId} {l : Lane} (h : SurveyFine settled s) :
    SurveyFine settled ((s.setLane n l).withdrawRequest n) := by
  unfold State.withdrawRequest
  split
  · exact h.1.setLane_dropRequest.settle_fine
  · rename_i noRequest
    rw [State.hasRequest_iff] at noRequest
    exact h.setLane fun surveyed => absurd surveyed noRequest

/-- A surveyable lane without a request files one (R76, R77). -/
theorem SurveyKept.fileRequest {settled : Prop} {s : State} {n : LaneId} (cls : SurveyClass) (h : SurveyKept s)
    (surveyable : (s.lane n).surveyable) (noRequest : n ∉ s.surveyed) : SurveyFine settled (s.fileRequest n cls) := by
  refine SurveyKept.settle_fine ?_
  have joined : (State.surveyed { s with survey := { s.survey with queue := s.survey.queue ++ [{ lane := n, cls := cls }] } }).Perm
      (n :: s.surveyed) := by
    simp only [State.surveyed, List.map_append, List.map_cons, List.map_nil, List.append_assoc]
    exact List.perm_middle
  refine ⟨joined.nodup_iff.2 (List.nodup_cons.2 ⟨noRequest, h.single⟩), fun m hm => ?_, h.tap⟩
  rcases List.mem_cons.1 (joined.mem_iff.1 hm) with rfl | hm
  · exact surveyable
  · exact h.surveyable m hm

/-- A dwell with its request upgraded to FADE class, when it is lane n's (R77). -/
def Dwell.upgrade (n : LaneId) (d : Dwell) : Dwell :=
  if d.lane == n then { d with cls := .fade } else d

@[simp] theorem Dwell.upgrade_lane (n : LaneId) (d : Dwell) : (d.upgrade n).lane = d.lane := by
  unfold Dwell.upgrade
  split <;> rfl

@[simp] theorem Dwell.upgrade_mast (n : LaneId) (d : Dwell) : (d.upgrade n).mast = d.mast := by
  unfold Dwell.upgrade
  split <;> rfl

/-- The part with lane n's pending request upgraded where it stands (R77). -/
def State.upgradeRequest (s : State) (n : LaneId) : State :=
  { s with survey := { s.survey with
      queue := s.survey.queue.map fun r => if r.lane == n then { r with cls := .fade } else r
      dwell := s.survey.dwell.map (Dwell.upgrade n) } }

theorem State.fadeRequest_eq (s : State) (n : LaneId) :
    s.fadeRequest n = if s.hasRequest n = true then (s.upgradeRequest n).surveySettle else s.fileRequest n .fade := rfl

theorem State.upgradeRequest_surveyed (s : State) (n : LaneId) : (s.upgradeRequest n).surveyed = s.surveyed := by
  have waiting : (s.survey.queue.map fun r => if r.lane == n then { r with cls := .fade } else r).map SurveyRequest.lane =
      s.survey.queue.map SurveyRequest.lane := by
    rw [List.map_map]
    refine List.map_congr_left fun r _ => ?_
    simp only [Function.comp]
    split <;> rfl
  have running : (s.survey.dwell.map (Dwell.upgrade n)).map Dwell.lane = s.survey.dwell.map Dwell.lane := by
    cases s.survey.dwell <;> simp
  simp only [State.surveyed, State.upgradeRequest, waiting, running]

theorem SurveyKept.upgradeRequest {s : State} (h : SurveyKept s) (n : LaneId) : SurveyKept (s.upgradeRequest n) where
  single := s.upgradeRequest_surveyed n ▸ h.single
  surveyable m hm := h.surveyable m (s.upgradeRequest_surveyed n ▸ hm)
  tap := by
    have tap := h.tap
    cases hd : s.survey.dwell with
    | none =>
      simp only [SurveyTapSound, State.upgradeRequest, hd, Option.map_none] at tap ⊢
      exact tap
    | some d =>
      simp only [SurveyTapSound, State.upgradeRequest, hd, Option.map_some, Dwell.upgrade_lane, Dwell.upgrade_mast] at tap ⊢
      exact tap

/-- A surveyable lane's entry-to-FADE request is filed, or upgrades the pending one (R77). -/
theorem SurveyKept.fadeRequest {settled : Prop} {s : State} {n : LaneId} (h : SurveyKept s) (surveyable : (s.lane n).surveyable) :
    SurveyFine settled (s.fadeRequest n) := by
  rw [State.fadeRequest_eq]
  split
  · exact (h.upgradeRequest n).settle_fine
  · rename_i noRequest
    rw [State.hasRequest_iff] at noRequest
    exact h.fileRequest .fade surveyable noRequest

/-! ### A dwell that goes on, a dwell that ends (R83 to R89) -/

/-- A report taken inside a dwell moves its counts and clears the tap's mark (R7, R83, R84). -/
theorem SurveyFine.setDwell {settled : Prop} {s : State} {d e : Dwell} (h : SurveyFine settled s) (hd : s.survey.dwell = some d)
    (lane : e.lane = d.lane) (mast : e.mast = d.mast) (cls : e.cls = d.cls) :
    SurveyFine settled { s with survey := { s.survey with tap := { s.survey.tap with hit := false }, dwell := some e } } := by
  have tap := h.1.tap
  simp only [SurveyTapSound, hd] at tap
  have same : State.surveyed { s with survey := { s.survey with tap := { s.survey.tap with hit := false }, dwell := some e } } =
      s.surveyed := by
    simp only [State.surveyed, hd, Option.map_some, lane]
  refine ⟨⟨same ▸ h.1.single, fun n hn => h.1.surveyable n (same ▸ hn), ?_⟩, fun asked => ⟨?_, ?_⟩⟩
  · simp only [SurveyTapSound]
    rw [lane, mast]
    exact tap
  · intro none
    cases none
  · intro f hf lock r hr fade other
    cases hf
    exact (h.2 asked).2 d hd (cls ▸ lock) r hr fade (lane ▸ other)

/-- The lane of a dwell that ends has no request left, whatever becomes of the lane (R89). -/
theorem SurveyKept.setLane_clearDwell {s : State} {d : Dwell} {l : Lane} (h : SurveyKept s) (hd : s.survey.dwell = some d) :
    SurveyKept (s.setLane d.lane l).clearDwell := by
  have single := h.single
  simp only [State.surveyed, hd, Option.map_some, Option.toList_some] at single
  obtain ⟨waiting, -, apart⟩ := List.nodup_append.1 single
  refine .of_no_dwell rfl waiting (fun r hr => ?_) rfl
  have away : d.lane ≠ r.lane := fun same => apart r.lane (List.mem_map_of_mem hr) d.lane (List.mem_singleton_self _) same.symm
  rw [State.clearDwell_lane, State.setLane_lane_ne s l away]
  exact h.queue_surveyable hr

end Sys2Proof.Machine
end

section
namespace Sys2Proof.Machine

/-! ### A lane's own changes keep it sound (R50) -/

/-- The lane once a take has finished: the applied tag replaced, nothing pending (R108). -/
def Lane.taken (l : Lane) (tag : Tag) : Lane :=
  { l with appliedTag := tag, pendingPlan := none, applyWindow := none }

/-- The active mast is the one a fixed policy names (R52). -/
def Lane.mastFits (l : Lane) (p : TunePlan) : Prop :=
  p.mastPolicy.isAuto = false → l.activeMast = p.mastPolicy.start

theorem Lane.sound.taken {l : Lane} {modes : ModeTable} (h : l.sound modes) (tag : Tag) : (l.taken tag).sound modes := by
  cases hp : l.phase <;> simp only [Lane.sound, hp] at h <;> simp only [Lane.sound, Lane.taken, hp]
  case off =>
    obtain ⟨applied, -, rest⟩ := h
    exact ⟨applied, ⟨rfl, rfl⟩, rest⟩
  case seek =>
    obtain ⟨p, applied, tap, -, rest⟩ := h
    exact ⟨p, applied, tap, ⟨rfl, rfl⟩, rest⟩
  case track =>
    obtain ⟨p, applied, tap, -, rest⟩ := h
    exact ⟨p, applied, tap, ⟨rfl, rfl⟩, rest⟩
  all_goals
    obtain ⟨p, applied, tap, known, seeded, seek, survey, order, -⟩ := h
    exact ⟨p, applied, tap, known, seeded, seek, survey, order, rfl⟩

theorem Lane.sound.mastFits {l : Lane} {modes : ModeTable} {p : TunePlan} (h : l.sound modes) (applied : l.applied = some p) :
    l.mastFits p := by
  cases hp : l.phase <;> simp only [Lane.sound, hp] at h
  case off =>
    rw [h.1] at applied
    cases applied
  all_goals
    obtain ⟨q, same, ⟨-, fits⟩, -⟩ := h
    cases same.symm.trans applied
    exact fits

/-- The apply window runs exactly while a plan is pending (R94). -/
theorem Lane.sound.window {l : Lane} {modes : ModeTable} (h : l.sound modes) : l.applyWindow.isSome = l.pendingPlan.isSome := by
  cases hp : l.phase <;> simp only [Lane.sound, hp] at h
  case off =>
    obtain ⟨-, ⟨plan, window⟩, -⟩ := h
    rw [plan, window]
    rfl
  case seek =>
    obtain ⟨-, -, -, ⟨plan, window⟩, -⟩ := h
    rw [plan, window]
    rfl
  case track =>
    obtain ⟨-, -, -, ⟨plan, window⟩, -⟩ := h
    rw [plan, window]
    rfl
  all_goals
    obtain ⟨-, -, -, -, -, -, -, -, window⟩ := h
    exact window

theorem Lane.enterSeek_sound {l : Lane} {p : TunePlan} (modes : ModeTable) (now : Time) (applied : l.applied = some p)
    (fits : l.mastFits p) (nothing : l.nothingPending) : (l.enterSeek p now).sound modes :=
  ⟨p, applied, ⟨rfl, fits⟩, nothing, rfl, rfl, rfl, rfl, rfl, rfl, rfl⟩

theorem Lane.enterOff_sound {l : Lane} (modes : ModeTable) (now : Time) (nothing : l.nothingPending) : (l.enterOff now).sound modes :=
  ⟨rfl, nothing, rfl, rfl, rfl, rfl, rfl, rfl, rfl⟩

theorem Lane.stop_sound (l : Lane) (modes : ModeTable) (now : Time) : (l.stop now).sound modes :=
  Lane.enterOff_sound (l := { l with pendingPlan := none, applyWindow := none }) modes now ⟨rfl, rfl⟩

/-- Entry to TRACK of a lane in SEEK whose recognizer has just recognised a usable entry (R56). -/
theorem Lane.enterTrack_sound {l : Lane} {modes : ModeTable} {p : TunePlan} (now : Time) (applied : l.applied = some p)
    (tap : l.tapFollows p) (nothing : l.nothingPending) (known : l.modeKnown modes) (seek : l.seekTimer.isSome = true)
    (survey : l.surveyTimer = none) (order : l.switchOrder = none) (mark : l.firstAfterLock = false) :
    (l.enterTrack now).sound modes :=
  ⟨p, applied, tap, nothing, known, seek, survey, order, mark⟩

theorem Lane.enterLock_sound {l : Lane} {modes : ModeTable} {p : TunePlan} (now : Time) (h : l.sound modes) (track : l.phase = .track)
    (applied : l.applied = some p) (seeded : l.tracker.seeded = true) : (l.enterLock p now).sound modes := by
  simp only [Lane.sound, track] at h
  obtain ⟨q, same, tap, ⟨plan, window⟩, known, -, survey, order, -⟩ := h
  cases same.symm.trans applied
  refine ⟨p, applied, tap, known, seeded, rfl, ?_, ?_, ?_⟩
  · simp only [Lane.enterLock, survey]
    split
    · exact fun _ => ‹_›
    · exact fun none => nomatch none
  · simp only [Lane.enterLock, order]
    exact fun none => nomatch none
  · simp only [Lane.enterLock, plan, window]
    rfl

theorem Lane.enterFade_sound {l : Lane} {modes : ModeTable} (now : Time) (h : l.sound modes) (lock : l.phase = .lock) :
    (l.enterFade now).sound modes := by
  simp only [Lane.sound, lock] at h
  exact h

theorem Lane.recover_sound {l : Lane} {modes : ModeTable} (now : Time) (h : l.sound modes) (fade : l.phase = .fade) :
    (l.recover now).sound modes := by
  simp only [Lane.sound, fade] at h
  exact h

/-- A TUNE plan that is no retune keeps channel, and a fixed policy in it names the active mast (R109). -/
theorem isRetune_eq_false {modes : ModeTable} {active : Mast} {old new : TunePlan} (h : isRetune modes active old new = false) :
    new.centre = old.centre ∧ new.bandwidth = old.bandwidth ∧ (new.mastPolicy.isAuto = false → active = new.mastPolicy.start) := by
  simp only [isRetune, Bool.or_eq_false_iff, bne_eq_false_iff_eq, Bool.and_eq_false_imp, Bool.not_eq_true'] at h
  obtain ⟨⟨⟨centre, bandwidth⟩, -⟩, mast⟩ := h
  exact ⟨centre.symm, bandwidth.symm, fun fixed => (mast fixed).symm⟩

/-- A parameter update keeps a lane sound (R66). -/
theorem Lane.update_sound {l : Lane} {modes : ModeTable} {old p : TunePlan} (now : Time) (h : l.sound modes) (applied : l.applied = some old)
    (update : isRetune modes l.activeMast old p = false) : (l.update p now).sound modes := by
  obtain ⟨centre, bandwidth, fits⟩ := isRetune_eq_false update
  have follows : l.tapFollows old → (l.update p now).tapFollows p := fun ⟨set, _⟩ =>
    ⟨by rw [centre, bandwidth]; exact set, fits⟩
  cases hp : l.phase <;> simp only [Lane.sound, hp] at h
  case off =>
    rw [h.1] at applied
    cases applied
  all_goals
    obtain ⟨q, same, tap, h⟩ := h
    cases same.symm.trans applied
    simp only [Lane.sound, Lane.update, hp]
    refine ⟨p, rfl, follows tap, ?_⟩
    simp only [LanePhase.delivers, Bool.true_and, Bool.false_and]
  case seek =>
    obtain ⟨nothing, known, seeded, qacc, seek, survey, order, mark⟩ := h
    exact ⟨nothing, known, seeded, qacc, seek, rfl, by rw [order]; split <;> rfl, mark⟩
  case track =>
    obtain ⟨nothing, known, seek, survey, order, mark⟩ := h
    exact ⟨nothing, known, seek, rfl, by rw [order]; split <;> rfl, mark⟩
  all_goals
    obtain ⟨known, seeded, seek, survey, order, window⟩ := h
    refine ⟨known, seeded, seek, ?_, ?_, window⟩ <;> split <;> simp [*]

/-- A switch keeps a lane with a waiting order sound (R90). -/
theorem Lane.switchMast_sound {l : Lane} {modes : ModeTable} {p : TunePlan} {mean : Nat} (now : Time) (h : l.delivering modes)
    (delivers : l.phase.delivers = true) (applied : l.applied = some p) (waits : l.switchOrder = some mean) :
    (l.switchMast mean p now).sound modes := by
  obtain ⟨q, same, ⟨set, fits⟩, known, seeded, seek, survey, order, window⟩ := h
  cases same.symm.trans applied
  have auto := order (by rw [waits]; rfl)
  have switched : (l.switchMast mean p now).delivering modes := by
    refine ⟨p, applied, ⟨?_, fun fixed => ?_⟩, known, rfl, seek, fun _ => auto, fun none => (nomatch none), window⟩
    · simp only [Lane.switchMast, set, Option.map_some]
    · rw [auto] at fixed
      cases fixed
  cases hp : l.phase <;> rw [hp] at delivers <;> cases delivers <;> simpa only [Lane.sound, Lane.switchMast, hp] using switched

theorem Lane.sound.delivering {l : Lane} {modes : ModeTable} (h : l.sound modes) (delivers : l.phase.delivers = true) :
    l.delivering modes := by
  cases hp : l.phase <;> rw [hp] at delivers <;> cases delivers <;> simpa only [Lane.sound, hp] using h

/-- A sound lane that holds no plan is OFF (R50). -/
theorem Lane.sound.off_iff {l : Lane} {modes : ModeTable} (h : l.sound modes) : l.phase = .off ↔ l.applied = none := by
  cases hp : l.phase <;> simp only [Lane.sound, hp] at h
  case off => simp [h.1]
  all_goals
    obtain ⟨p, applied, -⟩ := h
    simp [applied]

/-! ### Steps one to three of a report (R53) -/

/-- A report taken in SEEK leaves nothing recognised, or completes the recognition of a usable entry (R25). -/
theorem Recognizer.search_cases (r : Recognizer) (modes : ModeTable) (allowed : List EntryId) (period : Nat) :
    ((r.search modes allowed period).2 = .quiet ∧ (r.search modes allowed period).1.recognised = r.recognised) ∨
    ((r.search modes allowed period).2 = .recognition ∧
      ∃ c : EntryId, (r.search modes allowed period).1.recognised = some c ∧ modes[c].isSome = true) := by
  have formed : ∀ found, (r.form found).recognised = r.recognised := by
    intro found
    cases found <;> rfl
  unfold Recognizer.search
  split
  · split
    · exact .inl ⟨rfl, rfl⟩
    · exact .inl ⟨rfl, rfl⟩
  · rename_i c _
    split
    · exact .inl ⟨rfl, formed _⟩
    · rename_i e he
      split
      · split
        · exact .inr ⟨rfl, c, rfl, by rw [he]; rfl⟩
        · exact .inl ⟨rfl, rfl⟩
      · split
        · exact .inl ⟨rfl, formed _⟩
        · exact .inl ⟨rfl, rfl⟩

/-- A mode check keeps the recognised entry and recognises none (R27, R28). -/
theorem Recognizer.check_cases (r : Recognizer) (modes : ModeTable) (period : Nat) :
    (r.check modes period).1.recognised = r.recognised ∧ (r.check modes period).2 ≠ .recognition := by
  unfold Recognizer.check
  split
  · exact ⟨rfl, nofun⟩
  · split
    · exact ⟨rfl, nofun⟩
    · split
      · exact ⟨rfl, nofun⟩
      · split <;> exact ⟨rfl, nofun⟩

/-- What the first three steps of a report can do to a lane: the tap's mark, the recognizer, the tracker and the counters alone change; a
recognition is of a usable entry and comes in SEEK only, a mode loss in the other states; a used sample seeds the tracker (R20, R39, R40). -/
structure Lane.Hears (l : Lane) (modes : ModeTable) (l' : Lane) (v : ReportVerdict) : Prop where
  frame : l' = { l with tap := { l.tap with hit := false }, tracker := l'.tracker, recognizer := l'.recognizer, counters := l'.counters }
  recognition : v.event = .recognition → l.phase.recognised = false ∧ l'.modeKnown modes
  others : v.event ≠ .recognition → l'.recognizer.recognised = l.recognizer.recognised
  loss : v.event = .modeLoss → l.phase.recognised = true
  used : v.used = true → l.phase.recognised = true ∧ l'.tracker.seeded = true
  unused : v.used = false → l'.tracker.seeded = l.tracker.seeded ∧ l'.tracker.qacc = l.tracker.qacc

/-- What the recognizer's step can do (R20, R22 to R28). -/
theorem Lane.recognize_cases (l : Lane) (modes : ModeTable) (p : TunePlan) (excused : Bool) (period : Nat) :
    ∃ rec event, l.recognize modes p excused period = ({ l with recognizer := rec }, event) ∧
      ((event ≠ .recognition ∧ rec.recognised = l.recognizer.recognised ∧ (event = .modeLoss → l.phase.recognised = true)) ∨
       (event = .recognition ∧ l.phase.recognised = false ∧ ∃ c : EntryId, rec.recognised = some c ∧ modes[c].isSome = true)) := by
  unfold Lane.recognize
  split
  · exact ⟨_, _, rfl, .inl ⟨nofun, rfl, nofun⟩⟩
  · refine ⟨_, _, rfl, ?_⟩
    cases hp : l.phase.recognised
    · rcases l.recognizer.search_cases modes (allowedSet modes p.modePolicy) period with ⟨quiet, same⟩ | ⟨event, known⟩
      · exact .inl ⟨by simp [quiet], by simpa using same, by simp [quiet]⟩
      · exact .inr ⟨by simpa using event, rfl, by simpa using known⟩
    · obtain ⟨same, event⟩ := l.recognizer.check_cases modes period
      exact .inl ⟨by simpa using event, by simpa using same, fun _ => rfl⟩

theorem Lane.hear_hears (l : Lane) (station : StationSettings) (p : TunePlan) (r : SymbolReport) :
    l.Hears station.modes (l.hear station p r).1 (l.hear station p r).2 := by
  obtain ⟨rec, event, decided, outcome⟩ := (l.hearHit p).1.recognize_cases station.modes p (l.hearHit p).2 r.period
  have phase : (l.hearHit p).1.phase = l.phase := rfl
  have known : (l.hearHit p).1.recognizer = l.recognizer := rfl
  rw [phase, known] at outcome
  have verdict : (l.hear station p r).2.event = event := by
    simp only [Lane.hear, decided]
  have use : (l.hear station p r).2.used = (l.phase.recognised && !(l.hearHit p).2 && event != .modeLoss) := by
    simp only [Lane.hear, decided, phase]
  have lane : (l.hear station p r).1 = if (l.hear station p r).2.used = true
      then ({ (l.hearHit p).1 with recognizer := rec } : Lane).sample station p r.signal r.error
      else { (l.hearHit p).1 with recognizer := rec } := by
    rw [use]
    simp only [Lane.hear, decided, phase]
  have recognizer : (l.hear station p r).1.recognizer = rec := by
    rw [lane]
    split <;> rfl
  refine ⟨?_, fun asked => ?_, fun asked => ?_, fun asked => ?_, fun asked => ⟨?_, ?_⟩, fun asked => ?_⟩
  · rw [lane]
    split <;> rfl
  · rw [verdict] at asked
    rcases outcome with ⟨other, -⟩ | ⟨-, seeking, c, hc, usable⟩
    · exact absurd asked other
    · exact ⟨seeking, c, by rw [recognizer]; exact hc, usable⟩
  · rw [verdict] at asked
    rcases outcome with ⟨-, same, -⟩ | ⟨recognised, -⟩
    · rw [recognizer]
      exact same
    · exact absurd recognised asked
  · rw [verdict] at asked
    rcases outcome with ⟨-, -, loss⟩ | ⟨recognised, -⟩
    · exact loss asked
    · rw [recognised] at asked
      cases asked
  · rw [use] at asked
    simp only [Bool.and_eq_true] at asked
    exact asked.1.1
  · rw [lane, if_pos asked]
    rfl
  · rw [lane, if_neg (by simp [asked])]
    exact ⟨rfl, rfl⟩

theorem Lane.Hears.phase {l l' : Lane} {modes : ModeTable} {v : ReportVerdict} (h : l.Hears modes l' v) : l'.phase = l.phase := by
  rw [h.frame]

theorem Lane.Hears.applied {l l' : Lane} {modes : ModeTable} {v : ReportVerdict} (h : l.Hears modes l' v) : l'.applied = l.applied := by
  rw [h.frame]

/-- Without a recognition a report's first three steps keep a sound lane sound. -/
theorem Lane.Hears.sound {l l' : Lane} {modes : ModeTable} {v : ReportVerdict} (h : l.Hears modes l' v) (sound : l.sound modes)
    (event : v.event ≠ .recognition) (on : l.phase ≠ .off) : l'.sound modes := by
  have same := h.others event
  have seeded : l.tracker.seeded = true → l'.tracker.seeded = true := by
    intro before
    cases hu : v.used
    · rw [(h.unused hu).1, before]
    · exact (h.used hu).2
  have frame := h.frame
  cases hp : l.phase <;> simp only [Lane.sound, hp] at sound
  case off => exact absurd hp on
  case seek =>
    obtain ⟨p, applied, tap, nothing, known, fresh, qacc, seek, survey, order, mark⟩ := sound
    have unused : v.used = false := by
      cases hu : v.used
      · rfl
      · have := (h.used hu).1
        rw [hp] at this
        cases this
    obtain ⟨seed, level⟩ := h.unused unused
    rw [frame]
    simp only [Lane.sound, hp]
    exact ⟨p, applied, tap, nothing, by rw [same]; exact known, by rw [seed]; exact fresh, by rw [level]; exact qacc, seek, survey, order, mark⟩
  case track =>
    obtain ⟨p, applied, tap, nothing, ⟨c, known, usable⟩, seek, survey, order, mark⟩ := sound
    rw [frame]
    simp only [Lane.sound, hp]
    exact ⟨p, applied, tap, nothing, ⟨c, by rw [same]; exact known, usable⟩, seek, survey, order, mark⟩
  all_goals
    obtain ⟨p, applied, tap, ⟨c, known, usable⟩, before, seek, survey, order, window⟩ := sound
    rw [frame]
    simp only [Lane.sound, hp]
    exact ⟨p, applied, tap, ⟨c, by rw [same]; exact known, usable⟩, seeded before, seek, survey, order, window⟩

/-- A recognition in SEEK leads to a sound lane in TRACK (R56). -/
theorem Lane.Hears.enterTrack_sound {l l' : Lane} {modes : ModeTable} {v : ReportVerdict} (h : l.Hears modes l' v) (now : Time)
    (sound : l.sound modes) (event : v.event = .recognition) (on : l.phase ≠ .off) : (l'.enterTrack now).sound modes := by
  obtain ⟨seeking, known⟩ := h.recognition event
  have frame := h.frame
  cases hp : l.phase <;> rw [hp] at seeking <;> simp only [Lane.sound, hp] at sound
  case off => exact absurd hp on
  case seek =>
    obtain ⟨p, applied, tap, nothing, -, -, -, seek, survey, order, mark⟩ := sound
    have same {α : Type} (f : Lane → α) : f l' = f { l with tap := { l.tap with hit := false }, tracker := l'.tracker, recognizer := l'.recognizer, counters := l'.counters } :=
      congrArg f frame
    refine Lane.enterTrack_sound (p := p) now ?_ ?_ ?_ known ?_ ?_ ?_ ?_
    · rw [same Lane.applied]; exact applied
    · unfold Lane.tapFollows; rw [same Lane.tap, same Lane.activeMast]; exact tap
    · unfold Lane.nothingPending; rw [same Lane.pendingPlan, same Lane.applyWindow]; exact nothing
    · rw [same Lane.seekTimer]; exact seek
    · rw [same Lane.surveyTimer]; exact survey
    · rw [same Lane.switchOrder]; exact order
    · rw [same Lane.firstAfterLock]; exact mark
  all_goals cases seeking

end Sys2Proof.Machine
end

section
namespace Sys2Proof.Machine

/-! ### The reception side sound around one lane -/

/-- In RUNNING with table `modes`, lane n is `l` and all but lane n's own parts is sound: the other lanes and the Survey Unit. -/
structure SoundAround (settled : Prop) (modes : ModeTable) (n : LaneId) (l : Lane) (s : State) : Prop where
  holds : s.lane n = l
  table : s.station.modes = modes
  running : s.link.device = .running
  others : ∀ m, n ≠ m → (s.lane m).sound modes
  survey : SurveyFine settled s

/-- Sound around lane n, whose own parts are sound too. -/
def SoundAt (settled : Prop) (modes : ModeTable) (n : LaneId) (s : State) : Prop :=
  ∃ l, SoundAround settled modes n l s ∧ l.sound modes

/-- What every step keeps: the reception side sound, and the Survey Unit settled where `settled` asks for it. -/
def ReceptionKept (settled : Prop) (s : State) : Prop :=
  ReceptionSound s ∧ (settled → SurveySettled s)

section
variable {settled : Prop} {modes : ModeTable} {n : LaneId} {l l' : Lane} {s t : State}

theorem ReceptionKept.survey (h : ReceptionKept settled s) : SurveyFine settled s :=
  ⟨⟨h.1.2.1, h.1.2.2.1, h.1.2.2.2.1⟩, h.2⟩

theorem ReceptionKept.lane (h : ReceptionKept settled s) (n : LaneId) : (s.lane n).sound s.station.modes :=
  h.1.1 n

theorem ReceptionKept.off (h : ReceptionKept settled s) (device : s.link.device ≠ .running) (n : LaneId) : (s.lane n).phase = .off :=
  h.1.2.2.2.2 device n

/-- A lane that is not OFF is in a part that is RUNNING. -/
theorem ReceptionKept.running (h : ReceptionKept settled s) (on : (s.lane n).phase ≠ .off) : s.link.device = .running := by
  by_contra device
  exact on (h.off device n)

theorem ReceptionKept.around (h : ReceptionKept settled s) (running : s.link.device = .running) (n : LaneId) :
    SoundAround settled s.station.modes n (s.lane n) s :=
  ⟨rfl, rfl, running, fun m _ => h.lane m, h.survey⟩

theorem SoundAt.kept (h : SoundAt settled modes n s) : ReceptionKept settled s := by
  obtain ⟨l, around, sound⟩ := h
  obtain ⟨⟨single, surveyable, tap⟩, settles⟩ := around.survey
  refine ⟨⟨fun m => ?_, single, surveyable, tap, fun device => absurd around.running device⟩, settles⟩
  rw [around.table]
  by_cases same : n = m
  · subst same
    rw [around.holds]
    exact sound
  · exact around.others m same

/-! #### What the other parts of the state do not matter for -/

theorem SoundAround.congr (same : t.reception = s.reception) (h : SoundAround settled modes n l s) : SoundAround settled modes n l t := by
  obtain ⟨-, station, lanes, survey, device⟩ := State.reception_eq_iff.1 same
  refine ⟨?_, ?_, ?_, fun m hm => ?_, h.survey.congr lanes survey⟩
  · rw [State.lane_congr lanes]
    exact h.holds
  · rw [station]
    exact h.table
  · rw [device]
    exact h.running
  · rw [State.lane_congr lanes]
    exact h.others m hm

theorem SoundAt.congr (same : t.reception = s.reception) (h : SoundAt settled modes n s) : SoundAt settled modes n t := by
  obtain ⟨l, around, sound⟩ := h
  exact ⟨l, around.congr same, sound⟩

theorem ReceptionKept.of_parts (h : ReceptionKept settled s) (station : t.station = s.station) (lanes : t.lanes = s.lanes)
    (survey : t.survey = s.survey) (device : t.link.device = s.link.device) : ReceptionKept settled t := by
  obtain ⟨⟨single, surveyable, tap⟩, settles⟩ := h.survey.congr lanes survey
  refine ⟨⟨fun m => ?_, single, surveyable, tap, fun asked m => ?_⟩, settles⟩
  · rw [State.lane_congr lanes, station]
    exact h.lane m
  · rw [State.lane_congr lanes]
    exact h.off (device ▸ asked) m

theorem ReceptionKept.congr (same : t.reception = s.reception) (h : ReceptionKept settled s) : ReceptionKept settled t := by
  obtain ⟨-, station, lanes, survey, device⟩ := State.reception_eq_iff.1 same
  exact h.of_parts station lanes survey device

@[simp] theorem State.oweLane_reception (s : State) (n : LaneId) : (s.oweLane n).reception = s.reception := rfl

@[simp] theorem State.raiseIf_reception (s : State) (b : Bool) (c : Cause) : (s.raiseIf b c).reception = s.reception := by
  cases b <;> rfl

@[simp] theorem State.settle_reception (s : State) : s.settle.reception = s.reception :=
  State.reception_eq_iff.2 ⟨s.settle_time, s.settle_station, s.settle_lanes, s.settle_survey, congrArg LinkPort.device s.settle_link⟩

@[simp] theorem State.setAnswer_reception (s : State) (n : LaneId) (a : SlotAnswer) : (s.setAnswer n a).reception = s.reception := rfl

/-- An entry or a switch ends with the lane's record asked for and, under a flag, LANE raised: neither is of the reception side. -/
theorem SoundAround.told (h : SoundAround settled modes n l s) (b : Bool) :
    SoundAround settled modes n l ((s.oweLane n).raiseIf b .lane) :=
  h.congr (by simp)

theorem SoundAt.told (h : SoundAt settled modes n s) (b : Bool) : SoundAt settled modes n ((s.oweLane n).raiseIf b .lane) :=
  h.congr (by simp)

/-! #### Changes of lane n -/

theorem SoundAround.setLane (h : SoundAround settled modes n l s) (alike : l.surveyable → l.SurveyAlike l') :
    SoundAround settled modes n l' (s.setLane n l') where
  holds := s.setLane_lane_self n l'
  table := h.table
  running := h.running
  others m hm := by
    rw [State.setLane_lane_ne s l' hm]
    exact h.others m hm
  survey := h.survey.setLane fun surveyed => by
    have own := h.survey.1.surveyable n surveyed
    rw [h.holds] at own ⊢
    exact alike own

/-- A change of lane n by a function is a replacement of the lane. -/
theorem SoundAround.modLane_eq (h : SoundAround settled modes n l s) (f : Lane → Lane) : s.modLane n f = s.setLane n (f l) := by
  rw [State.modLane, h.holds]

theorem SoundAround.modLane {f : Lane → Lane} (h : SoundAround settled modes n l s) (alike : l.surveyable → l.SurveyAlike (f l)) :
    SoundAround settled modes n (f l) (s.modLane n f) := by
  rw [h.modLane_eq]
  exact h.setLane alike

/-- However lane n changes, with its request withdrawn the rest stays sound. -/
theorem SoundAround.setLane_withdrawRequest (h : SoundAround settled modes n l s) :
    SoundAround settled modes n l' ((s.setLane n l').withdrawRequest n) where
  holds := by simp
  table := by simpa using h.table
  running := by simpa using h.running
  others m hm := by
    rw [State.withdrawRequest_lane, State.setLane_lane_ne s l' hm]
    exact h.others m hm
  survey := h.survey.setLane_withdrawRequest

theorem State.setLane_setLane (s : State) (n : LaneId) (l l' : Lane) : (s.setLane n l).setLane n l' = s.setLane n l' := by
  simp [State.setLane]

/-! #### Entries and takes (R54, R66, R67, R108, R110) -/

theorem SoundAround.enterSeek (h : SoundAround settled modes n l s) (p : TunePlan) :
    SoundAround settled modes n (l.enterSeek p s.time) (s.enterSeek n p) := by
  unfold State.enterSeek
  rw [h.modLane_eq]
  exact h.setLane_withdrawRequest.told _

theorem SoundAround.applyRetune (h : SoundAround settled modes n l s) (p : TunePlan) :
    SoundAround settled modes n (({ l with applied := some p, activeMast := p.mastPolicy.start } : Lane).enterSeek p s.time)
      (s.applyRetune n p) := by
  unfold State.applyRetune State.enterSeek
  rw [h.modLane_eq, State.modLane, State.setLane_lane_self, State.setLane_setLane]
  exact h.setLane_withdrawRequest.told _

theorem SoundAround.applyStop (h : SoundAround settled modes n l s) (notify : NotifyFlags) :
    SoundAround settled modes n { l.enterOff s.time with counters := .zero } (s.applyStop n notify) := by
  have withdrawn := h.setLane_withdrawRequest (l' := { l.enterOff s.time with counters := .zero })
  unfold State.applyStop
  rw [h.modLane_eq]
  refine SoundAround.congr (State.raiseIf_reception _ _ _) ⟨withdrawn.holds, withdrawn.table, withdrawn.running, withdrawn.others, ?_⟩
  obtain ⟨⟨single, surveyable, tap⟩, settles⟩ := withdrawn.survey
  exact ⟨⟨single, surveyable, tap⟩, settles⟩

/-- To the Survey Unit a parameter update under an AUTO policy is none (R66). -/
theorem Lane.surveyAlike_update {old p : TunePlan} (now : Time) (h : l.surveyable) (applied : l.applied = some old)
    (update : isRetune modes l.activeMast old p = false) (auto : p.mastPolicy.isAuto = true) : l.SurveyAlike (l.update p now) := by
  obtain ⟨centre, bandwidth, -⟩ := isRetune_eq_false update
  refine ⟨⟨h.1, p, rfl, auto⟩, rfl, ?_, fun q hq => ?_⟩
  · simp only [Lane.update, if_pos auto]
  · cases hq.symm.trans applied
    exact ⟨p, rfl, centre, bandwidth⟩

theorem SoundAround.applyUpdate {old p : TunePlan} (h : SoundAround settled modes n l s) (applied : l.applied = some old)
    (update : isRetune modes l.activeMast old p = false) :
    SoundAround settled modes n (l.update p s.time) (s.applyUpdate n p) := by
  unfold State.applyUpdate
  rw [h.modLane_eq]
  simp only
  split
  · rename_i auto
    exact h.setLane fun surveyable => Lane.surveyAlike_update s.time surveyable applied update auto
  · exact h.setLane_withdrawRequest

theorem SoundAround.finishTake (h : SoundAround settled modes n l s) (tag : Tag) (adjusted : BitVec 16) :
    SoundAround settled modes n (l.taken tag) (s.finishTake n tag adjusted) := by
  unfold State.finishTake State.answerTaken
  rw [h.modLane_eq]
  have taken := h.setLane (l' := l.taken tag) fun surveyable => .of_same surveyable surveyable.1 rfl rfl rfl
  exact taken.congr (by rfl)

/-- A TUNE plan applies as a retune, or, to a lane with an applied plan of the same channel, as an update (R110). -/
theorem State.applyTune_cases (s : State) (n : LaneId) (p : TunePlan) :
    s.applyTune n p = s.applyRetune n p ∨
    ∃ old, (s.lane n).applied = some old ∧ isRetune s.station.modes (s.lane n).activeMast old p = false ∧
      s.applyTune n p = s.applyUpdate n p := by
  unfold State.applyTune
  split
  · exact .inl rfl
  · exact .inl rfl
  · split
    · exact .inl rfl
    · rename_i update
      exact .inr ⟨_, ‹_›, by simpa using update, rfl⟩

/-- A take leaves lane n sound too, when it was so but for what was pending (R108, R110). -/
theorem SoundAround.takePlan (h : SoundAround settled modes n l s) (sound : ∀ tag, (l.taken tag).sound modes) (plan : AcceptedPlan) :
    SoundAt settled modes n (s.takePlan n plan) := by
  cases plan with
  | stop tag notify =>
    refine ⟨_, (h.applyStop notify).finishTake tag 0, ?_⟩
    exact Lane.enterOff_sound (l := Lane.taken { l with counters := .zero } tag) modes s.time ⟨rfl, rfl⟩
  | tune tag p adjusted =>
    simp only [State.takePlan]
    rcases s.applyTune_cases n p with retune | ⟨old, applied, update, same⟩
    · rw [retune]
      refine ⟨_, (h.applyRetune p).finishTake tag adjusted, ?_⟩
      exact Lane.enterSeek_sound (l := Lane.taken { l with applied := some p, activeMast := p.mastPolicy.start } tag) modes s.time rfl
        (fun _ => rfl) ⟨rfl, rfl⟩
    · rw [h.holds] at applied
      rw [h.table, h.holds] at update
      rw [same]
      refine ⟨_, (h.applyUpdate applied update).finishTake tag adjusted, ?_⟩
      exact Lane.update_sound (l := l.taken tag) s.time (sound tag) applied update

/-- At an apply point: a plan that waits is taken; without one the lane must be sound as it is (R105 to R107). -/
theorem SoundAround.takePending (h : SoundAround settled modes n l s) (waiting : ∀ tag, (l.taken tag).sound modes)
    (nothing : l.pendingPlan = none → l.sound modes) : SoundAt settled modes n (s.takePending n) := by
  unfold State.takePending
  rw [h.holds]
  split
  · exact ⟨l, h, nothing ‹_›⟩
  · exact h.takePlan waiting _

theorem SoundAt.takePending (h : SoundAt settled modes n s) : SoundAt settled modes n (s.takePending n) := by
  obtain ⟨l, around, sound⟩ := h
  exact around.takePending sound.taken fun _ => sound

/-- Leaving for SEEK, with the pending plan applied after the entry (R54, R107). -/
theorem SoundAround.leaveForSeek {p : TunePlan} (h : SoundAround settled modes n l s) (applied : l.applied = some p) (fits : l.mastFits p)
    (window : l.applyWindow.isSome = l.pendingPlan.isSome) : SoundAt settled modes n (s.leaveForSeek n p) := by
  refine (h.enterSeek p).takePending (fun tag => ?_) fun gone => ?_
  · exact Lane.enterSeek_sound (l := l.taken tag) modes s.time applied fits ⟨rfl, rfl⟩
  · refine Lane.enterSeek_sound modes s.time applied fits ⟨gone, ?_⟩
    have gone : l.pendingPlan = none := gone
    rw [gone] at window
    exact Option.not_isSome_iff_eq_none.1 (by simp [window])

end

end Sys2Proof.Machine
end

section
namespace Sys2Proof.Machine

section
variable {settled : Prop} {modes : ModeTable} {n : LaneId} {l l' : Lane} {s t : State} {p : TunePlan}

/-! #### The Survey Unit's own operations -/

/-- An operation of the Survey Unit alone that leaves the unit fine. -/
theorem SoundAround.survey_frame (h : SoundAround settled modes n l s) (frame : t.withoutSurvey = s.withoutSurvey)
    (fine : SurveyFine settled t) : SoundAround settled modes n l t := by
  have lanes := congrArg State.lanes frame
  have station := congrArg State.station frame
  have link := congrArg State.link frame
  simp only [State.withoutSurvey] at lanes station link
  refine ⟨?_, by rw [station]; exact h.table, by rw [link]; exact h.running, fun m hm => ?_, fine⟩
  · rw [State.lane_congr lanes]
    exact h.holds
  · rw [State.lane_congr lanes]
    exact h.others m hm

theorem SoundAround.fadeRequest (h : SoundAround settled modes n l s) (surveyable : l.surveyable) :
    SoundAround settled modes n l (s.fadeRequest n) :=
  h.survey_frame (s.fadeRequest_frame n) (h.survey.1.fadeRequest (h.holds ▸ surveyable))

/-! #### Step four of a report: the entries (R56 to R61) -/

theorem SoundAround.enterTrack (h : SoundAround settled modes n l s) (quiet : l.phase.delivers = false) :
    SoundAround settled modes n (l.enterTrack s.time) (s.enterTrack n p) :=
  (h.modLane (f := fun l => l.enterTrack s.time) fun surveyable => absurd surveyable.1 (by simp [quiet])).told _

theorem SoundAround.enterLock (h : SoundAround settled modes n l s) (quiet : l.phase.delivers = false) :
    SoundAround settled modes n (l.enterLock p s.time) (s.enterLock n p) :=
  (h.modLane (f := fun l => l.enterLock p s.time) fun surveyable => absurd surveyable.1 (by simp [quiet])).told _

theorem SoundAround.recoverLock (h : SoundAround settled modes n l s) :
    SoundAround settled modes n (l.recover s.time) (s.recoverLock n p) :=
  (h.modLane (f := fun l => l.recover s.time) fun surveyable => .of_same surveyable rfl rfl rfl rfl).told _

theorem SoundAround.enterFade (h : SoundAround settled modes n l s) (applied : l.applied = some p) :
    SoundAround settled modes n (l.enterFade s.time) (s.enterFade n p) := by
  have faded := h.modLane (f := fun l => l.enterFade s.time) fun surveyable => .of_same surveyable rfl rfl rfl rfl
  unfold State.enterFade
  simp only
  split
  · rename_i auto
    exact (faded.fadeRequest ⟨rfl, p, applied, auto⟩).told _
  · exact faded.told _

theorem SoundAround.actTrack (h : SoundAround settled modes n l s) (sound : l.sound modes) (track : l.phase = .track)
    (applied : l.applied = some p) (used : Bool) (seeded : used = true → l.tracker.seeded = true) :
    SoundAt settled modes n (s.actTrack n p used) := by
  unfold State.actTrack
  rw [h.holds]
  split
  · rename_i asked
    have counted (run : Nat) := h.modLane (f := fun l => { l with lockIn := run }) fun surveyable =>
      .of_same surveyable surveyable.1 rfl rfl rfl
    have still (run : Nat) : ({ l with lockIn := run } : Lane).sound modes := sound
    simp only
    split
    · exact ⟨_, (counted _).enterLock (by simp [track, LanePhase.delivers]),
        Lane.enterLock_sound _ (still _) track applied (seeded asked)⟩
    · exact ⟨_, counted _, still _⟩
  · exact ⟨l, h, sound⟩

theorem SoundAround.actLock (h : SoundAround settled modes n l s) (sound : l.sound modes) (lock : l.phase = .lock)
    (applied : l.applied = some p) (used : Bool) : SoundAt settled modes n (s.actLock n p used) := by
  unfold State.actLock
  rw [h.holds]
  split
  · have counted (run : Nat) := h.modLane (f := fun l => { l with fadeRun := run }) fun surveyable =>
      .of_same surveyable surveyable.1 rfl rfl rfl
    have still (run : Nat) : ({ l with fadeRun := run } : Lane).sound modes := sound
    simp only
    split
    · exact ⟨_, (counted _).enterFade applied, Lane.enterFade_sound _ (still _) lock⟩
    · exact ⟨_, counted _, still _⟩
  · exact ⟨l, h, sound⟩

theorem SoundAround.actFade (h : SoundAround settled modes n l s) (sound : l.sound modes) (fade : l.phase = .fade)
    (applied : l.applied = some p) (used : Bool) : SoundAt settled modes n (s.actFade n p used) := by
  have counted (run : Nat) := h.modLane (f := fun l => { l with recoverRun := run, hold := l.hold + 1 }) fun surveyable =>
    .of_same surveyable surveyable.1 rfl rfl rfl
  have still (run : Nat) : ({ l with recoverRun := run, hold := l.hold + 1 } : Lane).sound modes := sound
  unfold State.actFade
  rw [h.holds]
  simp only
  generalize (if used = true then nextRun _ _ else l.recoverRun) = run
  split
  · exact ⟨_, (counted _).recoverLock, Lane.recover_sound _ (still _) fade⟩
  · split
    · exact (counted _).leaveForSeek applied ((still _).mastFits applied) (still _).window
    · exact ⟨_, counted _, still _⟩

/-- Steps one to four of a report under the applied plan (R53). -/
theorem SoundAround.actOnReport {v : ReportVerdict} (h : SoundAround settled modes n l' s) (hears : l.Hears modes l' v)
    (sound : l.sound modes) (applied : l.applied = some p) : SoundAt settled modes n (s.actOnReport n p v) := by
  have on : l.phase ≠ .off := by
    rw [Ne, sound.off_iff, applied]
    exact nofun
  have applied' : l'.applied = some p := hears.applied.trans applied
  unfold State.actOnReport
  cases event : v.event with
  | recognition =>
    refine ⟨_, h.enterTrack ?_, hears.enterTrack_sound s.time sound event on⟩
    have seeking := (hears.recognition event).1
    rw [← hears.phase] at seeking
    cases hp : l'.phase <;> rw [hp] at seeking <;> cases seeking <;> rfl
  | modeLoss =>
    have still := hears.sound sound (by simp [event]) on
    exact h.leaveForSeek applied' (still.mastFits applied') still.window
  | quiet =>
    have still := hears.sound sound (by simp [event]) on
    simp only [h.holds]
    cases hp : l'.phase with
    | off => exact ⟨_, h, still⟩
    | seek => exact ⟨_, h, still⟩
    | track => exact h.actTrack still hp applied' v.used fun used => (hears.used used).2
    | lock => exact h.actLock still hp applied' v.used
    | fade => exact h.actFade still hp applied' v.used

/-! #### A switch (R90) -/

/-- A lane with a waiting switch order is not the one a dwell surveys, so its mast may toggle. -/
theorem SurveyKept.setLane_ordered (h : SurveyKept s) (waits : (s.lane n).switchOrder ≠ none)
    (surveyable : (s.lane n).surveyable → l.surveyable) : SurveyKept (s.setLane n l) where
  single := h.single
  surveyable m hm := by
    by_cases same : n = m
    · subst same
      rw [State.setLane_lane_self]
      exact surveyable (h.surveyable n hm)
    · rw [State.setLane_lane_ne s l same]
      exact h.surveyable m hm
  tap := by
    have tap := h.tap
    unfold SurveyTapSound at tap ⊢
    rw [State.setLane_survey]
    split
    · rename_i none
      simpa only [none] using tap
    · rename_i d hd
      simp only [hd] at tap
      have away : n ≠ d.lane := fun same => waits (same ▸ tap.2.1)
      rw [State.setLane_lane_ne s l away]
      exact tap

theorem SoundAt.switchAtSymbolEnd (h : SoundAt settled modes n s) : SoundAt settled modes n (s.switchAtSymbolEnd n) := by
  obtain ⟨l, around, sound⟩ := h
  unfold State.switchAtSymbolEnd
  simp only [around.holds]
  split
  · rename_i mean p waits applied
    split
    · rename_i delivers
      have switched := Lane.switchMast_sound s.time (sound.delivering delivers) delivers applied waits
      have kept := around.survey.1.setLane_ordered (n := n) (l := l.switchMast mean p s.time)
        (by rw [around.holds, waits]; exact nofun) (by rw [around.holds]; exact fun surveyable => surveyable)
      refine SoundAt.told ⟨_, ⟨?_, ?_, ?_, fun m hm => ?_, kept.settle_fine⟩, switched⟩ _
      · simp
      · simpa using around.table
      · simpa using around.running
      · rw [State.surveySettle_lane, State.setLane_lane_ne s _ hm]
        exact around.others m hm
    · exact ⟨l, around, sound⟩
  · exact ⟨l, around, sound⟩

/-- A symbol report keeps the reception side sound (R53, R90, R105). -/
theorem ReceptionKept.takeReport (h : ReceptionKept settled s) (applied : (s.lane n).applied = some p) (r : SymbolReport) :
    ReceptionKept settled (s.takeReport n p r) := by
  have sound := h.lane n
  have on : (s.lane n).phase ≠ .off := by
    rw [Ne, sound.off_iff, applied]
    exact nofun
  have hears := (s.lane n).hear_hears s.station p r
  have heard := (h.around (h.running on) n).setLane (l' := ((s.lane n).hear s.station p r).1) fun surveyable => by
    rw [hears.frame]
    exact .of_same surveyable surveyable.1 rfl rfl rfl
  have acted := heard.actOnReport hears sound applied
  unfold State.takeReport
  refine SoundAt.kept (SoundAt.switchAtSymbolEnd (modes := s.station.modes) ?_)
  unfold State.frameStartApply
  split
  · exact acted.takePending
  · exact acted

end

end Sys2Proof.Machine
end

section
namespace Sys2Proof.Machine

/-! ### What leaves the reception side alone -/

/-- Every next state an outcome can be satisfies `P`. -/
def Answers (P : State → Prop) (o : Host.Outcome State Fault Refusal) : Prop :=
  ∀ t, o = .next t → P t

@[simp] theorem answers_next {P : State → Prop} {s : State} : Answers P (.next s) ↔ P s :=
  ⟨fun h => h s rfl, fun h t same => by cases same; exact h⟩

theorem Answers.imp {P Q : State → Prop} {o : Host.Outcome State Fault Refusal} (h : Answers P o) (weaker : ∀ t, P t → Q t) : Answers Q o :=
  fun t same => weaker t (h t same)

@[simp] theorem State.dropItem_reception (s : State) : s.dropItem.reception = s.reception := rfl
@[simp] theorem State.setStream_reception (s : State) (n : StreamId) (w : StreamWriter) : (s.setStream n w).reception = s.reception := rfl
@[simp] theorem State.modStream_reception (s : State) (n : StreamId) (f : StreamWriter → StreamWriter) :
    (s.modStream n f).reception = s.reception := rfl
@[simp] theorem State.haltStream_reception (s : State) (n : StreamId) : (s.haltStream n).reception = s.reception := rfl
@[simp] theorem State.abandonLoad_reception (s : State) : s.abandonLoad.reception = s.reception := rfl
@[simp] theorem State.failLoad_reception (s : State) : s.failLoad.reception = s.reception := rfl
@[simp] theorem State.swapTable_reception (s : State) (x : FilterTable) : (s.swapTable x).reception = s.reception := rfl
@[simp] theorem State.setPending_reception (s : State) (p : PendingSet) : (s.setPending p).reception = s.reception := rfl
@[simp] theorem State.setNotices_reception (s : State) (x y : BitVec 7) : (s.setNotices x y).reception = s.reception := rfl
@[simp] theorem State.setBase_reception (s : State) (a : Addr) : (s.setBase a).reception = s.reception := rfl
@[simp] theorem State.setQueue_reception (s : State) (q : List Requester) : (s.setQueue q).reception = s.reception := rfl
@[simp] theorem State.endRace_reception (s : State) : s.endRace.reception = s.reception := rfl
@[simp] theorem State.oweAll_reception (s : State) : s.oweAll.reception = s.reception := rfl
@[simp] theorem State.setStatus_reception (s : State) (w : StatusWriter) : ({ s with status := w } : State).reception = s.reception := rfl

@[simp] theorem State.endRead_reception (s : State) (t : Transfer) (error : Bool) (who : FaultRequester) :
    (s.endRead t error who).reception = s.reception := by
  rcases s.endRead_cases t error who with ⟨-, -, same⟩ | ⟨-, same⟩ <;> rw [same] <;> rfl

@[simp] theorem State.endWrite_reception (s : State) (t : Transfer) (result : WriteResult) (who : FaultRequester) :
    (s.endWrite t result who).reception = s.reception := by
  rcases s.endWrite_cases t result who with ⟨-, same⟩ | ⟨-, -, same⟩ | ⟨-, -, same⟩ <;> rw [same] <;> rfl

@[simp] theorem State.fetchStream_reception (s : State) (n : StreamId) (f : StreamFetch) : (s.fetchStream n f).reception = s.reception := by
  simp [State.fetchStream]

@[simp] theorem State.markWritten_reception (s : State) (n : StreamId) (c : BufferClose) : (s.markWritten n c).reception = s.reception := by
  simp [State.markWritten]

@[simp] theorem State.takeBlock_reception (s : State) (j : Fin 8) (block : Vector Byte 256) : (s.takeBlock j block).reception = s.reception := by
  unfold State.takeBlock
  split
  · rfl
  · rfl
  · rfl
  · split <;> rfl

@[simp] theorem State.nameFilter_reception (s : State) : s.nameFilter.reception = s.reception := by
  unfold State.nameFilter
  split
  · rfl
  · rfl
  · split <;> rfl

@[simp] theorem State.oweFinalCounts_reception (s : State) : s.oweFinalCounts.reception = s.reception := by
  unfold State.oweFinalCounts
  split <;> rfl

/-! #### Grants -/

theorem State.grantWork_reception {s t : State} (h : s.grantWork = some t) : t.reception = s.reception := by
  have issued (i : AttentionItem) : (s.issueItem i).reception = s.reception := by
    cases i <;> rfl
  unfold State.grantWork at h
  repeat' split at h
  all_goals simp only [Option.some.injEq, reduceCtorEq, Option.map_eq_some_iff] at h
  · rw [← h]
    rfl
  · rw [← h]
    rfl
  all_goals
    obtain ⟨i, -, rfl⟩ := h
    exact issued i

theorem State.grantRequest_reception {s t : State} {r : Requester} (h : s.grantRequest r = some t) : t.reception = s.reception := by
  cases r with
  | fetcher =>
    simp only [State.grantRequest, State.grantFetcher] at h
    split at h
    · cases h
      rfl
    · exact State.grantWork_reception h
  | stream n =>
    simp only [State.grantRequest, State.grantStream] at h
    split at h
    · cases h
      rfl
    · split at h <;> cases h
      rfl
  | status r =>
    simp only [State.grantRequest, State.grantStatus] at h
    split at h <;> cases h
    rfl

theorem State.grantSlot_reception (s : State) (n : StreamId) : (s.grantSlot n).reception = s.reception := by
  unfold State.grantSlot
  split <;> rfl

theorem State.grantAmong_reception {s t : State} {queue later : List Requester} {slots : List StreamId}
    (h : s.grantAmong queue later slots = some t) : t.reception = s.reception := by
  rcases s.grantAmong_cases queue later slots t h with granted | ⟨-, n, -, rfl⟩
  · obtain ⟨-, r, rest, -, issued⟩ := s.grantQueue_cases later queue t granted
    exact (State.grantRequest_reception issued).trans (s.setQueue_reception _)
  · exact State.grantSlot_reception _ n

theorem State.grantWith_reception (s : State) (requestsWait slotWaits : Bool) : (s.grantWith requestsWait slotWaits).reception = s.reception := by
  rcases s.grantWith_cases requestsWait slotWaits with ⟨t, granted, same⟩ | ⟨t, -, granted, same⟩ | same
  · rw [same]
    exact (State.grantAmong_reception granted).trans s.endRace_reception
  · rw [same]
    exact (State.grantAmong_reception granted).trans s.endRace_reception
  · rw [same]
    rfl

/-! #### Commands that leave the reception side alone -/

/-- A command that can change the reception side: one of the masts' taps, of a lane, of the Survey Unit, of the device state or of the timer. -/
def Instr.movesReception : Instr → Bool
  | .impulseEvent _ _ | .symbolReport _ _ _ _ _ | .surveyReport _ _ | .seekTimerExpiry _ | .surveyIntervalExpiry _
  | .applyWindowExpiry _ | .packetGate _ _ _ _ _ | .stationBlockReadComplete _ | .laneSlotReadComplete _
  | .statusRecordWriteComplete _ | .runSet | .runClear | .softReset | .powerOnReset | .stationTimerTick => true
  | _ => false

theorem execRoutePacket_reception (s : State) : Answers (·.reception = s.reception) (execRoutePacket s) := by
  unfold execRoutePacket
  split
  · simp
  · simp
  · split
    · simp
    · simp only [answers_next, State.settle_reception, State.oweFinalCounts_reception]
      rfl

theorem exec_reception {c : Instr} (h : Instr.movesReception c = false) (s : State) : Answers (·.reception = s.reception) (exec c s) := by
  cases c
  case routePacket => exact execRoutePacket_reception s
  case transferGrant =>
    clear h
    dsimp only [exec, execTransferGrant]
    split
    · simp
    · simpa using s.grantWith_reception _ _
  case magnitudeFallsBack m magnitude =>
    dsimp only [exec, execMagnitudeFallsBack]
    split
    · cases m <;> simp <;> rfl
    · simp
  case filterSwap | flushTimerExpiry | statusIntervalExpiry | stopComplete | exchangeBaseLow | exchangeBaseHigh | attentionLane
      | attentionStream | attentionFilter | attentionStatusNow | noticeClear | noticeEnable | registerWriteIgnored =>
    clear h
    dsimp only [exec, execFilterSwap, execFlushTimerExpiry, execStatusIntervalExpiry, execStopComplete, execExchangeBaseLow,
      execExchangeBaseHigh, execAttentionLane, execAttentionStream, execAttentionFilter, execAttentionStatusNow, execNoticeClear,
      execNoticeEnable, execRegisterWriteIgnored]
    repeat' split
    all_goals simp
  case laneSlotWriteBackComplete | filterBlockReadComplete | streamRecordReadComplete | bufferRecordReadComplete
      | fillingWriteComplete | slotWriteComplete | closingFieldsWriteComplete | markWriteComplete | emptyMarkWriteComplete
      | streamWriteBackComplete =>
    clear h
    dsimp only [exec, execLaneSlotWriteBackComplete, execFilterBlockReadComplete, execStreamRecordReadComplete,
      execBufferRecordReadComplete, execFillingWriteComplete, execSlotWriteComplete, execClosingFieldsWriteComplete,
      execMarkWriteComplete, execEmptyMarkWriteComplete, execStreamWriteBackComplete]
    repeat' split
    all_goals simp
  all_goals cases h

end Sys2Proof.Machine
end

section
namespace Sys2Proof.Machine

section
variable {settled : Prop} {modes : ModeTable} {n : LaneId} {l l' : Lane} {s t : State} {p : TunePlan}

/-! ### Commands of a lane -/

theorem expiresAt_iff {timer : Timer} {now : Time} : expiresAt timer now = true ↔ timer = some now :=
  beq_iff_eq

theorem execSymbolReport_kept (h : ReceptionKept settled s) (period : Fin 16384) (signal error : BitVec 16) (frameStart : Bool) :
    Answers (ReceptionKept settled) (execSymbolReport n period signal error frameStart s) := by
  unfold execSymbolReport
  split
  · simpa using h
  · simpa using h
  · rw [answers_next]
    exact (h.takeReport ‹_› _).congr (State.settle_reception _)

theorem SoundAround.seekCycle (h : SoundAround settled modes n l s) (sound : l.sound modes) (seeking : l.phase = .seek ∨ l.phase = .track)
    (applied : l.applied = some p) : SoundAt settled modes n (s.seekCycle n p) := by
  have quiet : l.phase.delivers = false := by
    rcases seeking with hp | hp <;> rw [hp] <;> rfl
  have nothing : l.nothingPending := by
    rcases seeking with hp | hp <;> simp only [Lane.sound, hp] at sound
    · obtain ⟨-, -, -, nothing, -⟩ := sound
      exact nothing
    · obtain ⟨-, -, -, nothing, -⟩ := sound
      exact nothing
  have toggled := h.modLane (f := fun l => { l with
      counters := { l.counters with seekCycles := satInc l.counters.seekCycles }
      activeMast := if p.mastPolicy.isAuto then opposite l.activeMast else l.activeMast })
    fun surveyable => absurd surveyable.1 (by simp [quiet])
  unfold State.seekCycle
  refine SoundAt.congr (by simp) ⟨_, toggled.enterSeek p, Lane.enterSeek_sound modes s.time applied (fun fixed => ?_) nothing⟩
  simp only [fixed, Bool.false_eq_true, if_false]
  exact sound.mastFits applied fixed

theorem execSeekTimerExpiry_kept (h : ReceptionKept settled s) : Answers (ReceptionKept settled) (execSeekTimerExpiry n s) := by
  unfold execSeekTimerExpiry
  simp only
  split
  · rename_i expires
    have timer := expiresAt_iff.1 expires
    have sound := h.lane n
    have cycle {p : TunePlan} (seeking : (s.lane n).phase = .seek ∨ (s.lane n).phase = .track) (applied : (s.lane n).applied = some p) :
        ReceptionKept settled (s.seekCycle n p).settle := by
      have on : (s.lane n).phase ≠ .off := by
        rcases seeking with hp | hp <;> rw [hp] <;> exact nofun
      exact ((h.around (h.running on) n).seekCycle sound seeking applied).kept.congr (by simp)
    split
    · rename_i phase applied
      exact answers_next.2 (cycle (.inl phase) applied)
    · rename_i phase applied
      exact answers_next.2 (cycle (.inr phase) applied)
    · rename_i notSeek notTrack
      exfalso
      cases hp : (s.lane n).phase <;> simp only [Lane.sound, hp] at sound
      case seek =>
        obtain ⟨p, applied, -⟩ := sound
        exact notSeek p hp applied
      case track =>
        obtain ⟨p, applied, -⟩ := sound
        exact notTrack p hp applied
      case off => simp [sound] at timer
      all_goals
        obtain ⟨-, -, -, -, -, stopped, -⟩ := sound
        rw [stopped] at timer
        cases timer
  · simpa using h

theorem SoundAround.fileRequest (h : SoundAround settled modes n l s) (surveyable : l.surveyable) (noRequest : s.hasRequest n = false)
    (cls : SurveyClass) : SoundAround settled modes n l (s.fileRequest n cls) := by
  refine h.survey_frame (s.fileRequest_frame n cls) (h.survey.1.fileRequest cls (h.holds ▸ surveyable) fun surveyed => ?_)
  rw [← s.hasRequest_iff, noRequest] at surveyed
  cases surveyed

theorem Lane.sound.surveyTimer_stopped (h : l.sound modes) : ({ l with surveyTimer := none } : Lane).sound modes := by
  cases hp : l.phase <;> simp only [Lane.sound, hp] at h ⊢
  case off =>
    obtain ⟨applied, nothing, tap, known, tracker, seek, -, rest⟩ := h
    exact ⟨applied, nothing, tap, known, tracker, seek, trivial, rest⟩
  case seek =>
    obtain ⟨p, applied, tap, nothing, known, seeded, qacc, seek, -, rest⟩ := h
    exact ⟨p, applied, tap, nothing, known, seeded, qacc, seek, trivial, rest⟩
  case track =>
    obtain ⟨p, applied, tap, nothing, known, seek, -, rest⟩ := h
    exact ⟨p, applied, tap, nothing, known, seek, trivial, rest⟩
  all_goals
    obtain ⟨p, applied, tap, known, seeded, seek, -, rest⟩ := h
    exact ⟨p, applied, tap, known, seeded, seek, fun none => (nomatch none), rest⟩

/-- A lane with a survey-interval timer running is not OFF (R50). -/
theorem Lane.sound.on_of_surveyTimer (h : l.sound modes) (runs : l.surveyTimer ≠ none) : l.phase ≠ .off := by
  intro hp
  simp only [Lane.sound, hp] at h
  obtain ⟨-, -, -, -, -, -, stopped, -⟩ := h
  exact runs stopped

/-- A lane with an apply window running holds a pending plan, and is not OFF (R50, R94). -/
theorem Lane.sound.on_of_applyWindow (h : l.sound modes) (runs : l.applyWindow.isSome = true) : l.phase ≠ .off ∧ l.pendingPlan ≠ none := by
  refine ⟨fun hp => ?_, Option.isSome_iff_ne_none.1 (h.window ▸ runs)⟩
  simp only [Lane.sound, hp] at h
  obtain ⟨-, ⟨-, none⟩, -⟩ := h
  rw [none] at runs
  cases runs

theorem execSurveyIntervalExpiry_kept (h : ReceptionKept settled s) :
    Answers (ReceptionKept settled) (execSurveyIntervalExpiry n s) := by
  unfold execSurveyIntervalExpiry
  simp only
  split
  · rename_i expires
    have timer := expiresAt_iff.1 expires
    have sound := (h.lane n).surveyTimer_stopped
    have on := (h.lane n).on_of_surveyTimer (by rw [timer]; exact nofun)
    have stopped := (h.around (h.running on) n).setLane (l' := { s.lane n with surveyTimer := none }) fun surveyable =>
      .of_same surveyable surveyable.1 rfl rfl rfl
    split
    · simp only [Bool.and_false, Bool.false_and, Bool.false_eq_true, if_false]
      exact answers_next.2 (SoundAt.kept ⟨_, stopped, sound⟩)
    · rename_i p applied
      split
      · rename_i files
        simp only [Bool.and_eq_true, Bool.not_eq_true'] at files
        obtain ⟨⟨delivers, auto⟩, noRequest⟩ := files
        exact answers_next.2 (SoundAt.kept ⟨_, stopped.fileRequest ⟨delivers, p, applied, auto⟩ noRequest .lock, sound⟩)
      · exact answers_next.2 (SoundAt.kept ⟨_, stopped, sound⟩)
  · simpa using h

theorem execApplyWindowExpiry_kept (h : ReceptionKept settled s) : Answers (ReceptionKept settled) (execApplyWindowExpiry n s) := by
  unfold execApplyWindowExpiry
  simp only
  split
  · rename_i expires
    have timer := expiresAt_iff.1 expires
    obtain ⟨on, pending⟩ := (h.lane n).on_of_applyWindow (by rw [timer]; rfl)
    have closed := (h.around (h.running on) n).setLane (l' := { s.lane n with applyWindow := none }) fun surveyable =>
      .of_same surveyable surveyable.1 rfl rfl rfl
    have applied := closed.takePending (fun tag => (h.lane n).taken tag) fun gone => absurd gone pending
    exact answers_next.2 (applied.kept.congr (by simp))
  · simpa using h

/-! #### The packet gate (R69, R70) -/

theorem Lane.sound.counted (h : l.sound modes) (counters : LaneCounters) : ({ l with counters := counters } : Lane).sound modes :=
  h

theorem Lane.sound.unmarked (h : l.sound modes) : ({ l with firstAfterLock := false } : Lane).sound modes := by
  cases hp : l.phase <;> simp only [Lane.sound, hp] at h ⊢
  case off =>
    obtain ⟨applied, nothing, tap, known, tracker, seek, survey, order, -⟩ := h
    exact ⟨applied, nothing, tap, known, tracker, seek, survey, order, trivial⟩
  case seek =>
    obtain ⟨p, applied, tap, nothing, known, seeded, qacc, seek, survey, order, -⟩ := h
    exact ⟨p, applied, tap, nothing, known, seeded, qacc, seek, survey, order, trivial⟩
  case track =>
    obtain ⟨p, applied, tap, nothing, known, seek, survey, order, -⟩ := h
    exact ⟨p, applied, tap, nothing, known, seek, survey, order, trivial⟩
  all_goals exact h

/-- A change of lane n that keeps it sound and is none to the Survey Unit. -/
theorem SoundAt.modLane {f : Lane → Lane} (h : SoundAt settled modes n s) (sound : ∀ l : Lane, l.sound modes → (f l).sound modes)
    (alike : ∀ l : Lane, l.surveyable → l.SurveyAlike (f l)) : SoundAt settled modes n (s.modLane n f) := by
  obtain ⟨l, around, before⟩ := h
  exact ⟨f l, around.modLane (alike l), sound l before⟩

theorem SoundAt.offerToRouter (h : SoundAt settled modes n s) (q : Packet) : SoundAt settled modes n (s.offerToRouter n q) := by
  unfold State.offerToRouter
  split
  · refine SoundAt.congr (s := s.modLane n fun l =>
      { l with firstAfterLock := false, counters := { l.counters with delivered := satInc l.counters.delivered } }) rfl ?_
    exact h.modLane (fun l sound => sound.unmarked.counted _) fun l surveyable => .of_same surveyable surveyable.1 rfl rfl rfl
  · refine SoundAt.congr (s := s.modLane n fun l =>
      { l with counters := { l.counters with routerDrops := satInc l.counters.routerDrops } }) rfl ?_
    exact h.modLane (fun l sound => sound.counted _) fun l surveyable => .of_same surveyable surveyable.1 rfl rfl rfl

theorem execPacketGate_kept (h : ReceptionKept settled s) (packet : Vector Byte 188) (m : Mast) (un : Bool) (cor : Fin 9) :
    Answers (ReceptionKept settled) (execPacketGate n packet m un cor s) := by
  have counted (on : (s.lane n).phase ≠ .off) (count : LaneCounters → LaneCounters) :
      SoundAt settled s.station.modes n (s.modLane n fun l => { l with counters := count l.counters }) :=
    SoundAt.modLane ⟨_, h.around (h.running on) n, h.lane n⟩ (fun l sound => sound.counted _) fun l surveyable =>
      .of_same surveyable surveyable.1 rfl rfl rfl
  unfold execPacketGate
  split <;> rename_i phase <;> rw [answers_next]
  · exact h
  · exact h
  · exact (counted (by rw [phase]; exact nofun) fun c => { c with preLockDiscards := satInc c.preLockDiscards }).kept
  all_goals exact ((counted (by rw [phase]; exact nofun) (·.pass un cor)).offerToRouter _).kept

/-! #### A Lane Slot is examined (R95 to R103) -/

theorem Lane.sound.held (h : l.sound modes) (delivers : l.phase.delivers = true) (plan : AcceptedPlan) (window : Time) :
    ({ l with pendingPlan := some plan, applyWindow := some window } : Lane).sound modes := by
  obtain ⟨p, applied, tap, known, seeded, seek, survey, order, -⟩ := h.delivering delivers
  cases hp : l.phase <;> rw [hp] at delivers <;> cases delivers <;> simp only [Lane.sound] <;>
    exact ⟨p, applied, tap, known, seeded, seek, survey, order, rfl⟩

theorem ReceptionKept.examineSlot (h : ReceptionKept settled s) (n : LaneId) (slot : Vector Byte 64) :
    ReceptionKept settled (s.examineSlot n slot) := by
  unfold State.examineSlot
  simp only
  split
  · exact h
  rename_i running
  split
  · exact h
  split
  · exact h
  split
  · exact h.congr (State.setAnswer_reception _ _ _)
  rename_i plan _
  have around := h.around (not_not.1 running) n
  unfold State.acceptPlan
  simp only
  split
  · rename_i delivers
    have held := (around.congr (State.setAnswer_reception s n { s.answer n with lastAnswered := some (hostHalf slot).tag })).modLane
      (f := fun l => { l with pendingPlan := some plan, applyWindow := some (deadline s.time Config.applyWindowLength) })
      fun surveyable => .of_same surveyable surveyable.1 rfl rfl rfl
    exact (SoundAt.kept ⟨_, held, (h.lane n).held delivers plan _⟩).congr rfl
  · exact ((around.congr (State.setAnswer_reception _ _ _)).takePlan (h.lane n).taken plan).kept

theorem execLaneSlotReadComplete_kept (h : ReceptionKept settled s) (result : ReadResult 64) :
    Answers (ReceptionKept settled) (execLaneSlotReadComplete result s) := by
  unfold execLaneSlotReadComplete
  split
  · simpa using h
  · split
    · simp only
      split
      · exact answers_next.2 (h.congr (by simp))
      · split <;> rw [answers_next]
        · exact h.congr (by simp)
        · refine ReceptionKept.congr (State.settle_reception _) (ReceptionKept.examineSlot (h.congr (by simp)) _ _)
    · simpa using h

/-! ### The survey report (R83 to R89) -/

/-- A surveyed lane is in LOCK or FADE. -/
theorem Lane.surveyable.on (h : l.surveyable) : l.phase ≠ .off := by
  intro off
  have delivers := h.1
  rw [off] at delivers
  cases delivers

theorem Dwell.sample_keeps (d : Dwell) (hit : Bool) (limit raw : Nat) (trim : Int) :
    (d.sample hit limit raw trim).lane = d.lane ∧ (d.sample hit limit raw trim).mast = d.mast ∧ (d.sample hit limit raw trim).cls = d.cls := by
  unfold Dwell.sample
  simp only
  split <;> exact ⟨rfl, rfl, rfl⟩

/-- The decision at a dwell end keeps a surveyed lane sound: it is under an AUTO policy (R88, R89). -/
theorem Lane.sound.decided (h : l.sound modes) (surveyable : l.surveyable) (order : Option Nat) (timer : Timer) :
    ({ l with switchOrder := order, surveyTimer := timer } : Lane).sound modes := by
  obtain ⟨delivers, q, same, auto⟩ := surveyable
  obtain ⟨p, applied, tap, known, seeded, seek, -, -, window⟩ := h.delivering delivers
  cases same.symm.trans applied
  cases hp : l.phase <;> rw [hp] at delivers <;> cases delivers <;> simp only [Lane.sound] <;>
    exact ⟨q, applied, tap, known, seeded, seek, fun _ => auto, fun _ => auto, window⟩

/-- A dwell's request is over: whatever the mean kept, and with the lane still sound, the next choice is made (R89). -/
theorem ReceptionKept.endRequest {d : Dwell} (h : ReceptionKept settled s) (hd : s.survey.dwell = some d)
    (sound : l.sound s.station.modes) (means : Vector (Option Nat) 12) :
    ReceptionKept settled
      (State.surveySettle (State.clearDwell { s.setLane d.lane l with survey := { s.survey with lastMean := means } })) := by
  have surveyable := h.survey.1.dwell_surveyable hd
  have around := h.around (h.running surveyable.on) d.lane
  have kept := h.survey.1.setLane_clearDwell (l := l) hd
  have cleared : SurveyKept (State.clearDwell { s.setLane d.lane l with survey := { s.survey with lastMean := means } }) :=
    ⟨kept.single, kept.surveyable, kept.tap⟩
  refine SoundAt.kept (n := d.lane) ⟨l, ⟨?_, ?_, ?_, fun m hm => ?_, cleared.settle_fine⟩, sound⟩
  · rw [State.surveySettle_lane]
    exact s.setLane_lane_self d.lane l
  · rw [State.surveySettle_station]
    rfl
  · rw [State.surveySettle_link]
    exact around.running
  · rw [State.surveySettle_lane]
    have same : (s.setLane d.lane l).lane m = s.lane m := State.setLane_lane_ne s l hm
    exact (congrArg (Lane.sound · s.station.modes) same).mpr (around.others m hm)

theorem ReceptionKept.endDwell {d : Dwell} (h : ReceptionKept settled s) (hd : s.survey.dwell = some d) (p : TunePlan) :
    ReceptionKept settled (s.endDwell d p) :=
  h.endRequest hd ((h.lane d.lane).decided (h.survey.1.dwell_surveyable hd) _ _) _

theorem execSurveyReport_kept (h : ReceptionKept settled s) (signal error : BitVec 16) :
    Answers (ReceptionKept settled) (execSurveyReport signal error s) := by
  unfold execSurveyReport
  split
  · simpa using h
  rename_i d hd
  split
  · simpa using h
  rename_i p _
  rw [answers_next]
  have moved {e : Dwell} (lane : e.lane = d.lane) (mast : e.mast = d.mast) (cls : e.cls = d.cls) : ReceptionKept settled
      { s with survey := { s.survey with tap := { s.survey.tap with hit := false }, dwell := some e } } := by
    obtain ⟨⟨single, surveyable, tap⟩, settles⟩ := h.survey.setDwell hd lane mast cls
    exact ⟨⟨h.lane, single, surveyable, tap, h.off⟩, settles⟩
  unfold State.takeSurveyReport
  simp only
  split
  · exact moved rfl rfl rfl
  · obtain ⟨lane, mast, cls⟩ := d.sample_keeps s.survey.tap.hit p.blankLimit (rawSample signal error) (s.station.trim d.mast)
    split
    · exact (moved lane mast cls).endDwell rfl p
    · exact moved lane mast cls

/-! ### Masts, device states and resets -/

@[simp] theorem Tap.strike_setting (t : Tap) (m : Mast) : (t.strike m).setting = t.setting := by
  unfold Tap.strike
  split
  · rfl
  · split <;> rfl

/-- An impulse marks taps, and an idle tap stays idle (R10). -/
theorem Lane.sound.struck (h : l.sound modes) (m : Mast) : ({ l with tap := l.tap.strike m } : Lane).sound modes := by
  cases hp : l.phase <;> simp only [Lane.sound, hp] at h ⊢
  case off =>
    obtain ⟨applied, nothing, tap, rest⟩ := h
    exact ⟨applied, nothing, by rw [tap]; rfl, rest⟩
  all_goals
    obtain ⟨p, applied, ⟨set, fits⟩, rest⟩ := h
    exact ⟨p, applied, ⟨(Tap.strike_setting _ m).trans set, fits⟩, rest⟩

theorem State.impulse_lane (s : State) (m : Mast) (n : LaneId) :
    (s.impulse m).lane n = { s.lane n with tap := (s.lane n).tap.strike m } := by
  simp [State.impulse, State.lane]

theorem ReceptionKept.impulse (h : ReceptionKept settled s) (m : Mast) : ReceptionKept settled (s.impulse m) := by
  have device : (s.impulse m).link = s.link := by cases m <;> rfl
  have station : (s.impulse m).station = s.station := by cases m <;> rfl
  refine ⟨⟨fun n => ?_, h.survey.1.single, fun n hn => ?_, ?_, fun off n => ?_⟩, fun asked => ⟨fun none r hr => ?_, fun d hd lock r hr fade other => ?_⟩⟩
  · rw [State.impulse_lane, station]
    exact (h.lane n).struck m
  · rw [State.impulse_lane]
    exact h.survey.1.surveyable n hn
  · have tap := h.survey.1.tap
    simp only [SurveyTapSound, State.impulse_lane] at tap ⊢
    simpa [State.impulse] using tap
  · rw [State.impulse_lane]
    exact h.off (device ▸ off) n
  · rw [State.impulse_lane]
    exact (h.2 asked).1 none r hr
  · rw [State.impulse_lane]
    exact (h.2 asked).2 d hd lock r hr fade other

/-- With every lane OFF the reception side is sound whatever the table and the device state. -/
theorem ReceptionKept.of_off (sound : ∀ n, (s.lane n).sound s.station.modes) (off : ∀ n, (s.lane n).phase = .off)
    (queue : s.survey.queue = []) (dwell : s.survey.dwell = none) (tap : s.survey.tap.setting = none) : ReceptionKept settled s := by
  have kept : SurveyKept s := .of_no_dwell dwell (by rw [queue]; exact .nil) (by simp [queue]) tap
  refine ⟨⟨sound, kept.single, kept.surveyable, kept.tap, fun _ => off⟩, fun _ => ⟨fun _ r hr => ?_, fun d hd => ?_⟩⟩
  · rw [queue] at hr
    cases hr
  · rw [dwell] at hd
    cases hd

/-- Out of RUNNING every lane is OFF and nothing is surveyed, so that settings and device state may change. -/
theorem ReceptionKept.device_moves (h : ReceptionKept settled s) (device : s.link.device ≠ .running) (lanes : t.lanes = s.lanes)
    (survey : t.survey = s.survey) : ReceptionKept settled t := by
  have off := h.off device
  have nobody : ∀ n, n ∉ s.surveyed := fun n surveyed => (h.survey.1.surveyable n surveyed).on (off n)
  have queue : s.survey.queue = [] := List.eq_nil_iff_forall_not_mem.2 fun r hr => nobody _ ((s.mem_surveyed _).2 (.inl ⟨r, hr, rfl⟩))
  have dwell : s.survey.dwell = none := Option.eq_none_iff_forall_ne_some.2 fun d hd =>
    nobody _ ((s.mem_surveyed _).2 (.inr ⟨d, hd, rfl⟩))
  have tap := h.survey.1.tap
  simp only [SurveyTapSound, dwell] at tap
  refine .of_off (fun n => ?_) (fun n => ?_) (by rw [survey, queue]) (by rw [survey, dwell]) (by rw [survey, tap])
  · rw [State.lane_congr lanes]
    have sound := h.lane n
    simp only [Lane.sound, off n] at sound ⊢
    exact sound
  · rw [State.lane_congr lanes]
    exact off n

end

end Sys2Proof.Machine
end

section
namespace Sys2Proof.Machine

section
variable {settled : Prop} {s : State}

/-! #### Loading, stopping, resetting -/

/-- The checks on a Station Block move settings and device state, and touch no lane and no request (R170). -/
theorem State.finishLoad_frame (s : State) (block : Vector Byte 256) :
    (s.finishLoad block).time = s.time ∧ (s.finishLoad block).lanes = s.lanes ∧ (s.finishLoad block).survey = s.survey := by
  unfold State.finishLoad
  split <;> exact ⟨rfl, rfl, rfl⟩

theorem execStationBlockReadComplete_kept (h : ReceptionKept settled s) (result : ReadResult 256) :
    Answers (ReceptionKept settled) (execStationBlockReadComplete result s) := by
  unfold execStationBlockReadComplete
  split
  · simpa using h
  rename_i t _
  split
  · have freed := h.congr (s.endRead_reception t (result == .error) .planFetcher)
    have device : (s.endRead t (result == .error) .planFetcher).link.device = s.link.device :=
      (State.reception_eq_iff.1 (s.endRead_reception t (result == .error) .planFetcher)).2.2.2.2
    simp only
    split
    · exact answers_next.2 freed
    · split
      · rename_i loading
        have idle : (s.endRead t (result == .error) .planFetcher).link.device ≠ .running := by
          rw [device, loading.1]
          exact nofun
        split <;> rw [answers_next] <;> refine ReceptionKept.congr (State.settle_reception _) ?_
        · exact freed.device_moves idle rfl rfl
        · rename_i block
          obtain ⟨-, lanes, survey⟩ := (s.endRead t (ReadResult.data block == .error) .planFetcher).finishLoad_frame block
          exact freed.device_moves idle lanes survey
      · exact answers_next.2 (freed.congr (State.settle_reception _))
  · simpa using h

theorem State.endStopping_frame (s : State) :
    s.endStopping.time = s.time ∧ s.endStopping.lanes = s.lanes ∧ s.endStopping.survey = s.survey := by
  unfold State.endStopping
  simp only
  split <;> exact ⟨rfl, rfl, rfl⟩

theorem execStatusRecordWriteComplete_kept (h : ReceptionKept settled s) (result : WriteResult) :
    Answers (ReceptionKept settled) (execStatusRecordWriteComplete result s) := by
  unfold execStatusRecordWriteComplete
  split
  · simpa using h
  rename_i t _
  split
  · have ended := h.congr (s.endWrite_reception t result .statusWriter)
    have device : (s.endWrite t result .statusWriter).link.device = s.link.device :=
      (State.reception_eq_iff.1 (s.endWrite_reception t result .statusWriter)).2.2.2.2
    simp only
    split
    · exact answers_next.2 ended
    · split <;> rw [answers_next] <;> refine ReceptionKept.congr (State.settle_reception _) ?_
      · rename_i last
        simp only [Bool.and_eq_true, beq_iff_eq] at last
        obtain ⟨⟨stopping, -⟩, -⟩ := last
        obtain ⟨-, lanes, survey⟩ := (s.endWrite t result .statusWriter).endStopping_frame
        exact ended.device_moves (by rw [device, stopping]; exact nofun) lanes survey
      · exact ended
  · simpa using h

theorem execRunSet_kept (h : ReceptionKept settled s) : Answers (ReceptionKept settled) (execRunSet s) := by
  unfold execRunSet
  split <;> rw [answers_next]
  · rename_i idle
    have loading : ReceptionKept settled (s.setRun true).enterLoading := h.device_moves (by rw [idle]; exact nofun) rfl rfl
    exact loading.congr (State.settle_reception _)
  all_goals exact h.congr rfl

@[simp] theorem State.stopLoad_reception (s : State) : s.stopLoad.reception = s.reception := by
  unfold State.stopLoad
  split <;> simp

/-- The part at the start of STOPPING: every lane stopped, no request, no dwell, the tap idle (R68, R171). -/
theorem State.enterStopping_frame (s : State) :
    s.enterStopping.time = s.time ∧ s.enterStopping.station = s.station ∧ (∀ n, s.enterStopping.lane n = (s.lane n).stop s.time) ∧
      s.enterStopping.survey = { s.survey with queue := [], dwell := none, tap := .idle } := by
  have final (u : State) := State.reception_eq_iff.1 u.oweFinalCounts_reception
  have load (u : State) := State.reception_eq_iff.1 u.stopLoad_reception
  refine ⟨(final _).1.trans (load _).1, (final _).2.1.trans (load _).2.1, fun n => ?_, (final _).2.2.2.1.trans (load _).2.2.2.1⟩
  have lanes : s.enterStopping.lanes = Vec.map (fun l => l.stop s.time) s.lanes := (final _).2.2.1.trans (load _).2.2.1
  simp [State.lane, lanes]

theorem ReceptionKept.enterStopping : ReceptionKept settled s.enterStopping := by
  obtain ⟨-, -, lanes, survey⟩ := s.enterStopping_frame
  refine .of_off (fun n => ?_) (fun n => ?_) (by rw [survey]) (by rw [survey]) (by rw [survey]; rfl)
  · rw [lanes]
    exact (s.lane n).stop_sound _ _
  · rw [lanes]
    rfl

theorem execRunClear_kept (h : ReceptionKept settled s) : Answers (ReceptionKept settled) (execRunClear s) := by
  unfold execRunClear
  split <;> rw [answers_next]
  · exact h.congr rfl
  · rename_i loading
    exact h.device_moves (by rw [loading]; exact nofun) rfl rfl
  · exact ReceptionKept.enterStopping.congr (State.settle_reception _)
  · exact h.congr rfl
  · rename_i faulted
    exact h.device_moves (by rw [faulted]; exact nofun) rfl rfl

theorem State.reset_lane (n : LaneId) : State.reset.lane n = .reset := by
  simp [State.lane, State.reset]

theorem ReceptionKept.of_reset_parts (lanes : s.lanes = State.reset.lanes) (survey : s.survey = State.reset.survey) :
    ReceptionKept settled s := by
  refine .of_off (fun n => ?_) (fun n => ?_) (by rw [survey]; rfl) (by rw [survey]; rfl) (by rw [survey]; rfl)
  · rw [State.lane_congr lanes, State.reset_lane]
    exact ⟨rfl, ⟨rfl, rfl⟩, rfl, rfl, rfl, rfl, rfl, rfl, rfl⟩
  · rw [State.lane_congr lanes, State.reset_lane]
    rfl

/-! ### Every command -/

theorem exec_kept (c : Instr) (h : ReceptionKept settled s) : Answers (ReceptionKept settled) (exec c s) := by
  cases moves : Instr.movesReception c
  · exact (exec_reception moves s).imp fun t same => h.congr same
  cases c
  case impulseEvent m magnitude =>
    change Answers _ (execImpulseEvent m magnitude s)
    unfold execImpulseEvent
    split
    · exact answers_next.2 (h.impulse m)
    · exact answers_next.2 h
  case symbolReport => exact execSymbolReport_kept h _ _ _ _
  case surveyReport => exact execSurveyReport_kept h _ _
  case seekTimerExpiry => exact execSeekTimerExpiry_kept h
  case surveyIntervalExpiry => exact execSurveyIntervalExpiry_kept h
  case applyWindowExpiry => exact execApplyWindowExpiry_kept h
  case packetGate => exact execPacketGate_kept h _ _ _ _
  case stationBlockReadComplete => exact execStationBlockReadComplete_kept h _
  case laneSlotReadComplete => exact execLaneSlotReadComplete_kept h _
  case statusRecordWriteComplete => exact execStatusRecordWriteComplete_kept h _
  case runSet => exact execRunSet_kept h
  case runClear => exact execRunClear_kept h
  case softReset => exact answers_next.2 (.of_reset_parts rfl rfl)
  case powerOnReset => exact answers_next.2 (.of_reset_parts rfl rfl)
  case stationTimerTick => exact answers_next.2 (h.of_parts rfl rfl rfl rfl)
  all_goals cases moves

theorem step_kept (h : ReceptionKept settled s) : Answers (ReceptionKept settled) (step s) := by
  unfold step
  split
  · exact answers_next.2 h
  · exact exec_kept _ (h.congr rfl)

end

/-- Settles O29: `step_kept`, with the Survey Unit asked to be settled afterwards exactly when it was before. -/
theorem receptionKeptSound : Obligations.ReceptionKeptSound := by
  intro s t sound stepped
  exact step_kept (settled := SurveySettled s) ⟨sound, id⟩ t stepped

end Sys2Proof.Machine
end

section
namespace Sys2Proof.Machine

/-! ### The Station Timer: no operation but the tick and power-on reset moves it (R12) -/

@[simp] theorem State.fileRequest_time (s : State) (n : LaneId) (c : SurveyClass) : (s.fileRequest n c).time = s.time := by
  simp [State.fileRequest]

@[simp] theorem State.enterSeek_time (s : State) (n : LaneId) (p : TunePlan) : (s.enterSeek n p).time = s.time := by
  simp [State.enterSeek]

@[simp] theorem State.enterTrack_time (s : State) (n : LaneId) (p : TunePlan) : (s.enterTrack n p).time = s.time := by
  simp [State.enterTrack]

@[simp] theorem State.enterLock_time (s : State) (n : LaneId) (p : TunePlan) : (s.enterLock n p).time = s.time := by
  simp [State.enterLock]

@[simp] theorem State.recoverLock_time (s : State) (n : LaneId) (p : TunePlan) : (s.recoverLock n p).time = s.time := by
  simp [State.recoverLock]

@[simp] theorem State.enterFade_time (s : State) (n : LaneId) (p : TunePlan) : (s.enterFade n p).time = s.time := by
  unfold State.enterFade
  cases p.mastPolicy.isAuto <;> simp

@[simp] theorem State.takePlan_time (s : State) (n : LaneId) (plan : AcceptedPlan) : (s.takePlan n plan).time = s.time := by
  cases plan with
  | stop tag notify => simp [State.takePlan, State.finishTake, State.answerTaken, State.applyStop]
  | tune tag p adjusted =>
    simp only [State.takePlan, State.finishTake, State.answerTaken, State.oweLane_time, State.setAnswer_time, State.modLane_time]
    rcases s.applyTune_cases n p with same | ⟨-, -, -, same⟩ <;> rw [same]
    · simp [State.applyRetune]
    · unfold State.applyUpdate
      cases p.mastPolicy.isAuto <;> simp

@[simp] theorem State.takePending_time (s : State) (n : LaneId) : (s.takePending n).time = s.time := by
  unfold State.takePending
  split <;> simp

@[simp] theorem State.leaveForSeek_time (s : State) (n : LaneId) (p : TunePlan) : (s.leaveForSeek n p).time = s.time := by
  simp [State.leaveForSeek]

@[simp] theorem State.actOnReport_time (s : State) (n : LaneId) (p : TunePlan) (v : ReportVerdict) : (s.actOnReport n p v).time = s.time := by
  unfold State.actOnReport
  split
  · simp
  · simp
  · split
    · rfl
    · rfl
    · unfold State.actTrack
      simp only
      repeat' split
      all_goals simp
    · unfold State.actLock
      simp only
      repeat' split
      all_goals simp
    · unfold State.actFade
      simp only
      generalize (if v.used = true then nextRun _ _ else (s.lane n).recoverRun) = run
      repeat' split
      all_goals simp

@[simp] theorem State.switchAtSymbolEnd_time (s : State) (n : LaneId) : (s.switchAtSymbolEnd n).time = s.time := by
  unfold State.switchAtSymbolEnd
  simp only
  repeat' split
  all_goals simp

@[simp] theorem State.takeReport_time (s : State) (n : LaneId) (p : TunePlan) (r : SymbolReport) : (s.takeReport n p r).time = s.time := by
  unfold State.takeReport State.frameStartApply
  simp only [State.switchAtSymbolEnd_time]
  split <;> simp

@[simp] theorem State.takeSurveyReport_time (s : State) (d : Dwell) (p : TunePlan) (signal error : BitVec 16) :
    (s.takeSurveyReport d p signal error).time = s.time := by
  unfold State.takeSurveyReport
  simp only
  split
  · rfl
  · split
    · simp [State.endDwell]
    · rfl

@[simp] theorem State.offerToRouter_time (s : State) (n : LaneId) (q : Packet) : (s.offerToRouter n q).time = s.time := by
  unfold State.offerToRouter
  split <;> rfl

@[simp] theorem State.examineSlot_time (s : State) (n : LaneId) (slot : Vector Byte 64) : (s.examineSlot n slot).time = s.time := by
  unfold State.examineSlot State.acceptPlan State.refusePlan State.holdPlan
  simp only
  repeat' split
  all_goals simp

@[simp] theorem State.endRead_time (s : State) (t : Transfer) (error : Bool) (who : FaultRequester) : (s.endRead t error who).time = s.time :=
  (State.reception_eq_iff.1 (s.endRead_reception t error who)).1

@[simp] theorem State.endWrite_time (s : State) (t : Transfer) (result : WriteResult) (who : FaultRequester) :
    (s.endWrite t result who).time = s.time :=
  (State.reception_eq_iff.1 (s.endWrite_reception t result who)).1

@[simp] theorem State.enterLoading_time (s : State) : s.enterLoading.time = s.time := rfl

theorem exec_time {c : Instr} (tick : c ≠ .stationTimerTick) (power : c ≠ .powerOnReset) (s : State) :
    Answers (·.time = s.time) (exec c s) := by
  cases moves : Instr.movesReception c
  · exact (exec_reception moves s).imp fun t same => (State.reception_eq_iff.1 same).1
  cases c
  case stationTimerTick => exact absurd rfl tick
  case powerOnReset => exact absurd rfl power
  case softReset => exact answers_next.2 rfl
  case impulseEvent m magnitude =>
    dsimp only [exec, execImpulseEvent]
    split
    · cases m <;> exact answers_next.2 rfl
    · exact answers_next.2 rfl
  case seekTimerExpiry =>
    dsimp only [exec, execSeekTimerExpiry]
    repeat' split
    all_goals simp [State.seekCycle]
  case stationBlockReadComplete result =>
    have load (u : State) (block : Vector Byte 256) := (u.finishLoad_frame block).1
    have faulted (u : State) : (u.enterFaulted .linkError).time = u.time := rfl
    clear moves
    dsimp only [exec, execStationBlockReadComplete]
    repeat' split
    all_goals simp [load, faulted]
  case statusRecordWriteComplete result =>
    have stopped (u : State) := u.endStopping_frame.1
    dsimp only [exec, execStatusRecordWriteComplete]
    repeat' split
    all_goals simp [stopped]
  case runClear =>
    have stopping (u : State) := u.enterStopping_frame.1
    dsimp only [exec, execRunClear]
    split
    all_goals simp [stopping]
    all_goals rfl
  case symbolReport | surveyReport | surveyIntervalExpiry | applyWindowExpiry | packetGate | laneSlotReadComplete | runSet =>
    clear moves
    dsimp only [exec, execSymbolReport, execSurveyReport, execSurveyIntervalExpiry, execApplyWindowExpiry, execPacketGate,
      execLaneSlotReadComplete, execRunSet]
    repeat' split
    all_goals simp
  all_goals cases moves

/-- Settles O11: `exec_time` for the other commands, the rest by the meanings of the tick, of power-on reset and of a register read. -/
theorem stationTimerCounts : Obligations.StationTimerCounts := by
  refine ⟨fun s => ⟨_, rfl, ?_, rfl⟩, fun s => ⟨_, rfl, rfl⟩, fun c s t tick power next => exec_time tick power s t next, fun s x offset => rfl⟩
  have below := s.time.isLt
  rw [BitVec.toNat_add]
  split <;> simp <;> omega

/-! ### Masts (R9 to R11) -/

theorem DeviceState.detects_iff (d : DeviceState) : d.detects = true ↔ d = .running ∨ d = .stopping := by
  cases d <;> simp [DeviceState.detects]

/-- A rise is an impulse event: the detector runs, the threshold is not 0 and is exceeded, no excursion is in progress (R9). -/
theorem State.isImpulse_iff (s : State) (m : Mast) (magnitude : Fin 257) : s.isImpulse m magnitude = true ↔
    (s.link.device = .running ∨ s.link.device = .stopping) ∧ s.station.threshold m ≠ 0 ∧ s.station.threshold m < magnitude.val ∧
      (s.front m).above = false := by
  simp only [State.isImpulse, Bool.and_eq_true, DeviceState.detects_iff, bne_iff_ne, decide_eq_true_eq, Bool.not_eq_true', and_assoc]

/-- A tap set to the mast gets its mark, any other keeps the one it has (R10). -/
theorem Tap.strike_eq (t : Tap) (m : Mast) :
    t.strike m = { t with hit := t.hit || decide (t.setting.map TapSetting.mast = some m) } := by
  obtain ⟨setting, hit⟩ := t
  cases setting with
  | none => simp [Tap.strike]
  | some c => by_cases same : c.mast = m <;> simp [Tap.strike, same]

theorem State.impulse_survey (s : State) (m : Mast) :
    (s.impulse m).survey = { s.survey with tap := s.survey.tap.strike m } := by
  cases m <;> rfl

theorem State.impulse_front (s : State) (m k : Mast) :
    (s.impulse m).front k = if m = k then { above := true, count := satInc (s.front m).count } else s.front k := by
  cases m <;> cases k <;> rfl

/-- Settles O9: the command is `State.impulse`, whose parts are said by `impulse_front`, `impulse_lane` and `impulse_survey`. -/
theorem impulseEventMarksTaps : Obligations.ImpulseEventMarksTaps := by
  intro s m magnitude device threshold exceeds quiet
  have event := (s.isImpulse_iff m magnitude).2 ⟨device, Nat.pos_iff_ne_zero.1 threshold, exceeds, quiet⟩
  refine ⟨s.impulse m, if_pos event, ?_, ?_, ?_, fun n => ?_, ?_, ?_⟩
  · rw [State.impulse_front, if_pos rfl]
    exact satInc_toNat _
  · rw [State.impulse_front, if_pos rfl]
  · rw [State.impulse_front, if_neg (by cases m <;> exact nofun)]
  · rw [State.impulse_lane, Tap.strike_eq]
  · rw [State.impulse_survey, Tap.strike_eq]
  · cases m <;> rfl

/-- Settles O10: without one of the conditions of `isImpulse_iff` there is no event. -/
theorem excursionBoundsEvents : Obligations.ExcursionBoundsEvents := by
  refine ⟨fun s m magnitude no => if_neg fun event => ?_, fun s magnitude device => ⟨fun falls => ?_, fun falls => ?_⟩⟩
  · obtain ⟨device, threshold, exceeds, quiet⟩ := (s.isImpulse_iff m magnitude).1 event
    rcases no with ⟨run, stop⟩ | zero | below | above
    · exact device.elim run stop
    · exact threshold zero
    · omega
    · rw [quiet] at above
      cases above
  all_goals
    have runs := (DeviceState.detects_iff _).2 device
    exact if_pos (by simp only [runs, Bool.true_and, decide_eq_true_eq]; exact falls)

/-! ### Reset values (R178) -/

theorem State.reset_stream (n : StreamId) : State.reset.stream n = .reset := by
  simp [State.stream, State.reset]

/-- Settles O5: each listed field of the reset state, by its definition. -/
theorem resetValues : Obligations.ResetValues := by
  refine ⟨rfl, rfl, fun n => ?_, fun n => ?_, rfl, rfl, rfl, rfl, rfl, rfl, rfl, rfl, rfl, rfl⟩
  · rw [State.reset_lane]
    exact ⟨rfl, rfl, rfl, rfl, rfl⟩
  · rw [State.reset_stream]
    exact ⟨rfl, rfl, rfl, rfl, rfl⟩

end Sys2Proof.Machine
end

section
namespace Sys2Proof.Machine

/-! ### Bytes of a record -/

/-- A one-byte field is the byte that stands there. -/
theorem field_one {k : Nat} (r : Vector Byte k) (i : Nat) (h : i < k) : field r i 1 = r[i].toNat := by
  have head : r.toList.drop i = r[i] :: r.toList.drop (i + 1) := by
    rw [List.drop_eq_getElem_cons (by simpa using h)]
    simp
  simp [field, head, leValue]

theorem byteAt_eq_getElem {k : Nat} (r : Vector Byte k) (i : Nat) (h : i < k) : byteAt r i = r[i] := by
  rw [byteAt, field_one r i h, BitVec.ofNat_toNat, BitVec.setWidth_eq]

/-! ### The packet gate (R69, R70, R116) -/

/-- A passed packet's bytes: as they came, or with the sync byte and the error mark written (R70). -/
theorem gateBytes_correctable (packet : Vector Byte 188) : gateBytes packet false = packet := rfl

theorem gateBytes_uncorrectable (packet : Vector Byte 188) :
    (gateBytes packet true)[0] = 0x47#8 ∧ (gateBytes packet true)[1] = packet[1] ||| 0x80#8 ∧
      ∀ i : Fin 188, 2 ≤ i.val → (gateBytes packet true)[i] = packet[i] := by
  have written : gateBytes packet true = (packet.set 0 0x47#8).set 1 (byteAt packet 1 ||| 0x80#8) := rfl
  rw [written, byteAt_eq_getElem packet 1 (by omega)]
  refine ⟨by simp, by simp, fun i hi => ?_⟩
  simp only [Fin.getElem_fin]
  rw [Vector.getElem_set_ne _ _ (by omega), Vector.getElem_set_ne _ _ (by omega)]

theorem State.modLane_modLane (s : State) (n : LaneId) (f g : Lane → Lane) :
    (s.modLane n f).modLane n g = s.setLane n (g (f (s.lane n))) := by
  rw [State.modLane, State.modLane_lane_self, State.modLane, State.setLane_setLane]

/-- In TRACK the gate discards and counts (R69). -/
theorem execPacketGate_discards {s : State} {n : LaneId} (track : (s.lane n).phase = .track)
    (packet : Vector Byte 188) (m : Mast) (un : Bool) (cor : Fin 9) :
    exec (.packetGate n packet m un cor) s = .next (s.modLane n fun l =>
      { l with counters := { l.counters with preLockDiscards := satInc l.counters.preLockDiscards } }) := by
  simp only [exec, execPacketGate, track]

/-- In LOCK and FADE the gate passes the packet on (R70). -/
theorem execPacketGate_passes {s : State} {n : LaneId} (delivers : (s.lane n).phase = .lock ∨ (s.lane n).phase = .fade)
    (packet : Vector Byte 188) (m : Mast) (un : Bool) (cor : Fin 9) :
    exec (.packetGate n packet m un cor) s = .next ((s.modLane n fun l => { l with counters := l.counters.pass un cor }).offerToRouter n
      (gatePacket s n packet m un cor)) := by
  rcases delivers with hp | hp <;> simp only [exec, execPacketGate, hp]

theorem State.offerToRouter_joins {s : State} (room : s.router.queue.length < 24) (n : LaneId) (q : Packet) :
    s.offerToRouter n q = s.joinRouter n q :=
  if_pos room

theorem State.offerToRouter_drops {s : State} (full : s.router.queue.length = 24) (n : LaneId) (q : Packet) :
    s.offerToRouter n q = s.dropAtRouter n :=
  if_neg (by simp [full, Config.routerCapacity])

/-- Settles O25, by lane state and by the room in the Router Queue. -/
theorem packetGateByLaneState : Obligations.PacketGateByLaneState := by
  intro s n packet m un cor
  refine ⟨fun track => ?_, fun delivers room => ?_, fun delivers full => ?_⟩
  · rw [execPacketGate_discards track]
    rfl
  · refine ⟨_, gatePacket s n packet m un cor, execPacketGate_passes delivers packet m un cor, ?_, rfl, rfl, rfl, rfl, rfl, ?_,
      fun correctable => ?_, fun uncorrectable => ?_⟩
    · rw [State.offerToRouter_joins (s := s.modLane n _) room, State.joinRouter, State.modLane_modLane]
      rfl
    · simp [gatePacket, arrivalStamp]
    · rw [gatePacket, correctable, gateBytes_correctable]
    · rw [gatePacket, uncorrectable]
      exact gateBytes_uncorrectable packet
  · rw [execPacketGate_passes delivers packet m un cor, State.offerToRouter_drops (s := s.modLane n _) full, State.dropAtRouter, State.modLane_modLane]
    rfl

/-! ### Survey reports inside a dwell (R83, R84) -/

/-- A survey report is taken by the running dwell of a lane with an applied plan. -/
theorem execSurveyReport_taken {s : State} {d : Dwell} {p : TunePlan} (hd : s.survey.dwell = some d)
    (applied : (s.lane d.lane).applied = some p) (signal error : BitVec 16) :
    exec (.surveyReport signal error) s = .next (s.takeSurveyReport d p signal error) := by
  simp only [exec, execSurveyReport, hd, applied]

theorem State.takeSurveyReport_settling {s : State} {d : Dwell} (settling : d.settling < 2) (p : TunePlan) (signal error : BitVec 16) :
    s.takeSurveyReport d p signal error = { s with survey := { s.survey with
      tap := { s.survey.tap with hit := false }, dwell := some { d with settling := d.settling + 1 } } } :=
  if_pos settling

theorem Dwell.sample_counts (d : Dwell) (hit : Bool) (limit raw : Nat) (trim : Int) :
    (d.sample hit limit raw trim).sampled = d.sampled + 1 ∧ (d.sample hit limit raw trim).length = d.length := by
  unfold Dwell.sample
  simp only
  split <;> exact ⟨rfl, rfl⟩

/-- A sampled report that is not the dwell's last leaves the dwell as `Dwell.sample` says. -/
theorem State.takeSurveyReport_sampled {s : State} {d : Dwell} (settled : 2 ≤ d.settling) (more : d.sampled + 1 < d.length) (p : TunePlan)
    (signal error : BitVec 16) :
    s.takeSurveyReport d p signal error = { s with survey := { s.survey with
      tap := { s.survey.tap with hit := false }
      dwell := some (d.sample s.survey.tap.hit p.blankLimit (rawSample signal error) (s.station.trim d.mast)) } } := by
  obtain ⟨sampled, length⟩ := d.sample_counts s.survey.tap.hit p.blankLimit (rawSample signal error) (s.station.trim d.mast)
  unfold State.takeSurveyReport
  simp only [sampled, length]
  rw [if_neg (by omega), if_neg (by omega)]

/-- Settles O26: a settling report, then the three verdicts of R36 by `blanking`. -/
theorem surveyReportMovesDwell : Obligations.SurveyReportMovesDwell := by
  intro s d p signal error hd applied
  simp only [execSurveyReport_taken hd applied]
  refine ⟨fun settling => ?_, fun settled more hit below limit => ?_, fun settled more clean => ?_, fun settled more hit above => ?_⟩
  · rw [State.takeSurveyReport_settling settling]
  · rw [State.takeSurveyReport_sampled settled more]
    simp [Dwell.sample, blanking, hit, below]
    omega
  · rw [State.takeSurveyReport_sampled settled more]
    simp [Dwell.sample, blanking, clean]
  · rw [State.takeSurveyReport_sampled settled more]
    simp [Dwell.sample, blanking, hit, Nat.not_lt.2 above]

/-! ### Events that do not arise (log entries 3 and 10) -/

/-- A completion of a transfer that is not on the port changes nothing. -/
theorem exec_completion_of_other {c : Instr} {s : State} (completion : ∃ k, ends c k = true)
    (other : ∀ t, s.arbiter.port = some t → ends c t.kind = false) : exec c s = .next s := by
  obtain ⟨k, hk⟩ := completion
  cases c
  case stationBlockReadComplete | laneSlotReadComplete | laneSlotWriteBackComplete | filterBlockReadComplete | streamRecordReadComplete
      | bufferRecordReadComplete | fillingWriteComplete | slotWriteComplete | closingFieldsWriteComplete | markWriteComplete
      | emptyMarkWriteComplete | streamWriteBackComplete | statusRecordWriteComplete =>
    clear hk
    dsimp only [exec, execStationBlockReadComplete, execLaneSlotReadComplete, execLaneSlotWriteBackComplete,
      execFilterBlockReadComplete, execStreamRecordReadComplete, execBufferRecordReadComplete, execFillingWriteComplete,
      execSlotWriteComplete, execClosingFieldsWriteComplete, execMarkWriteComplete, execEmptyMarkWriteComplete,
      execStreamWriteBackComplete, execStatusRecordWriteComplete]
    cases port : s.arbiter.port with
    | none => rfl
    | some t =>
      have kind := other t port
      dsimp only
      split
      · rename_i own
        rw [own] at kind
        cases kind
      · rfl
  all_goals exact absurd hk (by simp [ends])

/-- Settles O3, event by event. -/
theorem eventThatDoesNotAriseChangesNothing : Obligations.EventThatDoesNotAriseChangesNothing := by
  intro s
  have early {timer : Timer} (h : timer ≠ some s.time) : ¬expiresAt timer s.time = true := fun expires => h (expiresAt_iff.1 expires)
  refine ⟨fun c completion other => exec_completion_of_other completion other, fun n h => if_neg (early h), fun n h => if_neg (early h),
    fun n h => if_neg (early h), fun n h => if_neg (early h), fun h => if_neg (early h), fun n period signal error frame off => ?_,
    fun n packet m un cor quiet => ?_, fun signal error idle => ?_, fun empty => ?_, fun notReady => ?_, fun busy => ?_,
    fun device => if_neg ?_, fun empty => ?_⟩
  · simp only [exec, execSymbolReport, off]
  · rcases quiet with hp | hp <;> simp only [exec, execPacketGate, hp]
  · simp only [exec, execSurveyReport, idle]
  · simp only [exec, execRoutePacket, empty]
    cases s.router.inHand <;> rfl
  · simp only [exec, execFilterSwap]
    split
    · exact absurd ‹_› (notReady _)
    · rfl
  · obtain ⟨t, port⟩ := Option.isSome_iff_exists.1 busy
    simp only [exec, execTransferGrant, port]
  · simp [device]
  · simp only [step, empty]

end Sys2Proof.Machine
end

section
namespace Sys2Proof.Machine

/-! ### Placing requests (R159, R160, R174) -/

/-- A request put among others at any place leaves the others in their order. -/
theorem filter_insertIdx_of_not {α : Type} {p : α → Bool} {r : α} (skipped : p r = false) (l : List α) (i : Nat) :
    (l.insertIdx i r).filter p = l.filter p := by
  induction l generalizing i with
  | nil => cases i <;> simp [skipped]
  | cons a as ih =>
    cases i with
    | zero => simp [skipped]
    | succ i => simp [List.filter_cons, ih]

/-- Requests of other blocks stand among the Status Writer's and leave these in their order (R160, R174). -/
theorem shuffleIn_status (placed new : List Requester) (picks : Nat) (others : ∀ r ∈ new, r.isStatus = false) :
    (shuffleIn placed new picks).1.filter Requester.isStatus = placed.filter Requester.isStatus := by
  induction new generalizing placed picks with
  | nil => rfl
  | cons r rs ih =>
    have skipped := others r List.mem_cons_self
    refine (ih _ _ fun q hq => others q (List.mem_cons_of_mem _ hq)).trans ?_
    cases placed with
    | nil => simp [placeAmong, skipped]
    | cons a as => exact filter_insertIdx_of_not skipped (a :: as) _

theorem Requester.status_injective : Function.Injective Requester.status := fun _ _ same => Requester.status.inj same

theorem Requester.stream_injective : Function.Injective Requester.stream := fun _ _ same => Requester.stream.inj same

/-- The requests that are placed, in the order in which they come to stand. -/
def State.placedNow (s : State) : List Requester :=
  (shuffleIn s.newStatusRequests s.newSingleRequests s.picks).1

theorem State.placedNow_perm (s : State) : s.placedNow.Perm (s.newSingleRequests ++ s.newStatusRequests) :=
  shuffleIn_perm _ _ _

/-- A requester places a request exactly when it has something to transfer and none outstanding (R159). -/
theorem State.mem_placedNow (s : State) (r : Requester) : r ∈ s.placedNow ↔ s.hasTransfer r = true ∧ s.outstanding r = false := by
  rw [s.placedNow_perm.mem_iff, List.mem_append, s.mem_newSingleRequests, s.mem_newStatusRequests]
  cases r <;> simp [State.hasTransfer]

theorem State.newStatusRequests_sublist (s : State) : s.newStatusRequests.Sublist (allRecords.map .status) :=
  List.filter_sublist.map _

theorem State.newSingleRequests_others (s : State) (r : Requester) (h : r ∈ s.newSingleRequests) : r.isStatus = false := by
  rcases (s.mem_newSingleRequests r).1 h with ⟨rfl, -⟩ | ⟨n, rfl, -⟩ <;> rfl

theorem State.newSingleRequests_nodup (s : State) : s.newSingleRequests.Nodup := by
  unfold State.newSingleRequests
  refine List.nodup_append'.2 ⟨?_, (allStreams_nodup.filter _).map Requester.stream_injective, ?_⟩
  · split <;> simp
  · intro r own stream
    obtain ⟨n, -, rfl⟩ := List.mem_map.1 stream
    split at own
    · simp at own
    · cases own

theorem State.placedNow_nodup (s : State) : s.placedNow.Nodup := by
  refine s.placedNow_perm.nodup_iff.2 (List.nodup_append'.2 ⟨s.newSingleRequests_nodup, ?_, fun r single status => ?_⟩)
  · exact (allRecords_nodup.map Requester.status_injective).sublist s.newStatusRequests_sublist
  · obtain ⟨record, rfl, -⟩ := (s.mem_newStatusRequests r).1 status
    exact absurd (s.newSingleRequests_others _ single) (by simp [Requester.isStatus])

theorem State.placedNow_status (s : State) : (s.placedNow.filter Requester.isStatus).Sublist (allRecords.map .status) := by
  rw [State.placedNow, shuffleIn_status _ _ _ s.newSingleRequests_others]
  exact List.filter_sublist.trans s.newStatusRequests_sublist

/-- The requests placed are those the rules call for (R159, R160, R174). -/
theorem State.placeRequests_placed (s : State) : Placed s s.placeRequests := by
  refine ⟨rfl, rfl, rfl, rfl, s.placedNow, rfl, s.placedNow_nodup, s.mem_placedNow, s.placedNow_status, ?_⟩
  cases port : s.arbiter.port <;> simp [State.placeRequests, State.placedNow, port]

/-- A command that ends by settling gives what stood before it settled. -/
theorem Gives.of_settle {c : Instr} {s u : State} (h : exec c s = .next u.settle) : Gives c s u :=
  ⟨_, h, u.takeStatusNow.placeRequests_placed⟩

/-! ### Station Block: flags, bytes, Mode Entries (R2, R16, R17, R74) -/

theorem flag_getLsbD (w i j : Nat) (b : Bool) : (flag w i b).getLsbD j = (decide (j < w) && b && decide (i = j)) := by
  unfold flag
  cases b
  · simp
  · rw [if_pos rfl, BitVec.getLsbD_ofNat, Nat.testBit_two_pow, Bool.and_true]

/-- Bit j of a word of flags is the flag at its place. -/
theorem flags_getLsbD (w : Nat) (bs : List Bool) (i j : Nat) :
    (flags w bs i).getLsbD j = (decide (j < w) && decide (i ≤ j) && bs.getD (j - i) false) := by
  induction bs generalizing i with
  | nil => simp [flags]
  | cons b bs ih =>
    rw [flags, BitVec.getLsbD_or, flag_getLsbD, ih]
    rcases Nat.lt_trichotomy i j with below | same | above
    · obtain ⟨k, rfl⟩ := Nat.exists_eq_add_of_lt below
      have place : i + k + 1 - i = k + 1 := by omega
      have rest : i + k + 1 - (i + 1) = k := by omega
      simp [place, rest, show i ≠ i + k + 1 by omega, show i ≤ i + k + 1 by omega]
    · subst same
      simp
    · simp [Nat.not_le.2 above, show ¬i + 1 ≤ j by omega, show i ≠ j by omega]

theorem field_one_eq_byteAt {k : Nat} (r : Vector Byte k) (i : Nat) (h : i < k) : field r i 1 = (byteAt r i).toNat := by
  rw [byteAt_eq_getElem r i h, field_one r i h]

theorem clamp_eq (lo hi x : Nat) (h : lo ≤ hi) : clamp lo hi x = max lo (min hi x) := by
  unfold clamp
  split
  · omega
  · split <;> omega

theorem clampTrim_eq (t : Int) : clampTrim t = max (-16) (min 15 t) := by
  unfold clampTrim
  split
  · omega
  · split <;> omega

theorem settingsOf_modes (block : Vector Byte 256) (n : EntryId) : (settingsOf block).modes[n] = (rawModeEntry block n).inForce := by
  fin_cases n <;> rfl

theorem settingsOf_rejected (block : Vector Byte 256) (n : EntryId) :
    (settingsOf block).rejected.getLsbD n.val = (rawModeEntry block n).isRejected := by
  rw [settingsOf, flags_getLsbD]
  fin_cases n <;> rfl

theorem settingsOf_modeAdjusted (block : Vector Byte 256) (n : EntryId) :
    (settingsOf block).adjusted.getLsbD (2 + n.val) = (rawModeEntry block n).isAdjusted := by
  rw [settingsOf, stationFlags, flags_getLsbD]
  fin_cases n <;> rfl

end Sys2Proof.Machine
end

section
namespace Sys2Proof.Machine

/-! ### A Mode Entry, field by field (R16, R17) -/

/-- The carrier class a byte names: 1, 2 or 3, else none. -/
theorem carrierOf_cases (b : Byte) :
    (b = 1#8 ∧ carrierOf b.toNat = some .k2) ∨ (b = 2#8 ∧ carrierOf b.toNat = some .k4) ∨ (b = 3#8 ∧ carrierOf b.toNat = some .k8) ∨
      ((b ≠ 1#8 ∧ b ≠ 2#8 ∧ b ≠ 3#8) ∧ carrierOf b.toNat = none) := by
  by_cases one : b = 1#8
  · exact .inl ⟨one, by rw [one]; rfl⟩
  by_cases two : b = 2#8
  · exact .inr (.inl ⟨two, by rw [two]; rfl⟩)
  by_cases three : b = 3#8
  · exact .inr (.inr (.inl ⟨three, by rw [three]; rfl⟩))
  refine .inr (.inr (.inr ⟨⟨one, two, three⟩, ?_⟩))
  have away {k : Nat} (other : b ≠ BitVec.ofNat 8 k) (small : k < 256) : b.toNat ≠ k := fun same =>
    other (BitVec.eq_of_toNat_eq (by simp [same, Nat.mod_eq_of_lt small]))
  unfold carrierOf
  split
  · exact absurd ‹_› (away one (by omega))
  · exact absurd ‹_› (away two (by omega))
  · exact absurd ‹_› (away three (by omega))
  · rfl

theorem periodValid_iff (c : CarrierClass) (period : Nat) :
    periodValid c period = true ↔ c.core < period ∧ period ≤ c.core + c.core / 4 := by
  simp [periodValid]

/-- The entry of a valid class with its other three fields clamped (R17). -/
def RawModeEntry.clamped (r : RawModeEntry) (c : CarrierClass) : ModeEntry where
  carrier := c
  period := r.period
  tolerance := clamp 1 4 r.tolerance
  matchCount := clamp 2 32 r.matchCount
  missCount := clamp 1 8 r.missCount

theorem RawModeEntry.inForce_eq (r : RawModeEntry) {c : CarrierClass} (hc : carrierOf r.carrierCode = some c) :
    r.inForce = if r.enabled && periodValid c r.period then some (r.clamped c) else none := by
  simp only [RawModeEntry.inForce, hc]
  rfl

/-- The entry's class and Pexp are valid (R16). -/
def RawModeEntry.Valid (r : RawModeEntry) : Prop :=
  ∃ c, carrierOf r.carrierCode = some c ∧ periodValid c r.period = true

/-- An entry that is disabled or not valid is not in force and not adjusted; it is rejected exactly when enabled (R16). -/
theorem RawModeEntry.unusable (r : RawModeEntry) (h : ¬(r.enabled = true ∧ r.Valid)) :
    r.inForce = none ∧ r.isAdjusted = false ∧ r.isRejected = r.enabled := by
  have nothing : r.inForce = none := by
    cases hc : carrierOf r.carrierCode with
    | none => simp only [RawModeEntry.inForce, hc]
    | some c =>
      rw [r.inForce_eq hc, if_neg]
      simp only [Bool.and_eq_true]
      exact fun ⟨enabled, valid⟩ => h ⟨enabled, c, hc, valid⟩
  exact ⟨nothing, by simp [RawModeEntry.isAdjusted, nothing], by simp [RawModeEntry.isRejected, nothing]⟩

/-- An enabled and valid entry is in force with its fields clamped, adjusted when one of them moved (R16, R17). -/
theorem RawModeEntry.usable (r : RawModeEntry) {c : CarrierClass} (enabled : r.enabled = true) (hc : carrierOf r.carrierCode = some c)
    (valid : periodValid c r.period = true) :
    r.inForce = some (r.clamped c) ∧ r.isRejected = false ∧
      (r.isAdjusted = true ↔ (r.clamped c).tolerance ≠ r.tolerance ∨ (r.clamped c).matchCount ≠ r.matchCount ∨
        (r.clamped c).missCount ≠ r.missCount) := by
  have stands : r.inForce = some (r.clamped c) := by
    rw [r.inForce_eq hc, enabled, valid]
    rfl
  refine ⟨stands, by simp [RawModeEntry.isRejected, stands], ?_⟩
  simp only [RawModeEntry.isAdjusted, stands, Bool.or_eq_true, bne_iff_ne, or_assoc]

/-- An entry's class and Pexp are valid (R16), in the terms of its bytes: the class code is 1, 2 or 3 and the core length bounds Pexp. -/
theorem entryValid_iff {b : Byte} {core period : Nat} (hcore : core = (if b = 1#8 then 2048 else if b = 2#8 then 4096 else 8192)) :
    (∃ c, carrierOf b.toNat = some c ∧ periodValid c period = true) ↔
      (b = 1#8 ∨ b = 2#8 ∨ b = 3#8) ∧ core < period ∧ period ≤ core + core / 4 := by
  rw [hcore]
  rcases carrierOf_cases b with ⟨same, known⟩ | ⟨same, known⟩ | ⟨same, known⟩ | ⟨⟨one, two, three⟩, known⟩ <;> rw [known]
  case inr.inr.inr => simp [one, two, three]
  all_goals simp [same, periodValid_iff, CarrierClass.core]

theorem carrierCore {b : Byte} {c : CarrierClass} (h : carrierOf b.toNat = some c) :
    c.core = (if b = 1#8 then 2048 else if b = 2#8 then 4096 else 8192) := by
  rcases carrierOf_cases b with ⟨rfl, known⟩ | ⟨rfl, known⟩ | ⟨rfl, known⟩ | ⟨-, known⟩ <;> rw [known] at h <;> cases h <;> rfl

/-! ### Station Block read completion (R169 to R171) -/

/-- The read of a load in progress ends: its data is examined, or the load fails (R170). -/
theorem execStationBlock_loads {s : State} {t : Transfer} (carries : s.carries t .stationBlockRead) (loading : s.link.device = .loading)
    (issued : s.fetcher.loadRead = .issued) :
    (∀ block, exec (.stationBlockReadComplete (.data block)) s = .next (s.freePort.finishLoad block).settle) ∧
      exec (.stationBlockReadComplete .error) s =
        .next ((s.freePort.linkError .readError .planFetcher t.address).enterFaulted .linkError).settle := by
  obtain ⟨port, kind, owned⟩ := carries
  constructor <;> simp [exec, execStationBlockReadComplete, State.endRead, port, kind, owned, loading, issued]

/-- The read of a load that has been abandoned ends: its data is discarded, an error recorded (R165, R169). -/
theorem execStationBlock_discards {s : State} {t : Transfer} (carries : s.carries t .stationBlockRead)
    (abandoned : s.link.device ≠ .loading ∨ s.fetcher.loadRead ≠ .issued) :
    (∀ block, exec (.stationBlockReadComplete (.data block)) s = .next s.freePort.settle) ∧
      exec (.stationBlockReadComplete .error) s = .next (s.freePort.linkError .readError .planFetcher t.address).settle := by
  obtain ⟨port, kind, owned⟩ := carries
  have past : ¬(s.link.device = .loading ∧ s.fetcher.loadRead = .issued) := fun both => abandoned.elim (absurd both.1) (absurd both.2)
  constructor <;> simp [exec, execStationBlockReadComplete, State.endRead, port, kind, owned, past]

theorem blockFault_none {block : Vector Byte 256} (signature : field block 0 4 = 0x4B440001) (version : field block 4 2 = 1) :
    blockFault block = .none := by
  simp [blockFault, Config.signature, Config.layoutVersion, signature, version]

/-- A wrong signature comes before a wrong version (R170). -/
theorem State.finishLoad_wrong (s : State) {block : Vector Byte 256} {reason : LoadFault}
    (wrong : (reason = .badSignature ∧ field block 0 4 ≠ 0x4B440001) ∨
      (reason = .badVersion ∧ field block 0 4 = 0x4B440001 ∧ field block 4 2 ≠ 1)) : s.finishLoad block = s.enterFaulted reason := by
  rcases wrong with ⟨rfl, signature⟩ | ⟨rfl, signature, version⟩
  · simp [State.finishLoad, blockFault, Config.signature, signature]
  · simp [State.finishLoad, blockFault, Config.signature, Config.layoutVersion, signature, version]

/-- Settling takes no owed Station Status Record away. -/
theorem State.settle_stationOwed {s : State} (owed : s.status.stationOwed = true) : s.settle.status.stationOwed = true := by
  rw [State.settle, State.placeRequests_status]
  rcases s.takeStatusNow_cases with same | ⟨-, -, -, same⟩ <;> rw [same]
  · exact owed
  · rfl

/-- Where the fields of a Mode Entry stand in a Station Block (spec/11). -/
theorem rawModeEntry_bytes (block : Vector Byte 256) (n : EntryId) {o : Nat} (ho : o = 0x10 + 8 * n.val) :
    (rawModeEntry block n).enabled = (byteAt block o).getLsbD 0 ∧ (rawModeEntry block n).carrierCode = (byteAt block (o + 1)).toNat ∧
      (rawModeEntry block n).period = field block (o + 2) 2 ∧ (rawModeEntry block n).tolerance = (byteAt block (o + 4)).toNat ∧
      (rawModeEntry block n).matchCount = (byteAt block (o + 5)).toNat ∧ (rawModeEntry block n).missCount = (byteAt block (o + 6)).toNat := by
  have inside : o + 6 < 256 := by omega
  subst ho
  exact ⟨rfl, field_one_eq_byteAt block _ (by omega), rfl, field_one_eq_byteAt block _ (by omega), field_one_eq_byteAt block _ (by omega),
    field_one_eq_byteAt block _ (by omega)⟩

/-- A Mode Entry of the settings, in the terms of its bytes (R16, R17). -/
theorem settingsOf_entry (block : Vector Byte 256) (n : EntryId) (o core period : Nat) (ho : o = 0x10 + 8 * n.val)
    (hperiod : period = field block (o + 2) 2)
    (hcore : core = (if byteAt block (o + 1) = 1#8 then 2048 else if byteAt block (o + 1) = 2#8 then 4096 else 8192))
    (enabled valid : Prop) (henabled : enabled ↔ (byteAt block o).getLsbD 0 = true)
    (hvalid : valid ↔ (byteAt block (o + 1) = 1#8 ∨ byteAt block (o + 1) = 2#8 ∨ byteAt block (o + 1) = 3#8) ∧
      core < period ∧ period ≤ core + core / 4) :
    (¬(enabled ∧ valid) → (settingsOf block).modes[n] = none ∧ (settingsOf block).adjusted.getLsbD (2 + n.val) = false) ∧
    ((settingsOf block).rejected.getLsbD n.val = true ↔ enabled ∧ ¬valid) ∧
    (enabled ∧ valid → ∃ e, (settingsOf block).modes[n] = some e ∧ e.carrier.core = core ∧ e.period = period ∧
      e.tolerance = max 1 (min 4 (byteAt block (o + 4)).toNat) ∧ e.matchCount = max 2 (min 32 (byteAt block (o + 5)).toNat) ∧
      e.missCount = max 1 (min 8 (byteAt block (o + 6)).toNat) ∧
      ((settingsOf block).adjusted.getLsbD (2 + n.val) = true ↔ e.tolerance ≠ (byteAt block (o + 4)).toNat ∨
        e.matchCount ≠ (byteAt block (o + 5)).toNat ∨ e.missCount ≠ (byteAt block (o + 6)).toNat)) := by
  obtain ⟨enable, code, pexp, tolerance, matches', misses⟩ := rawModeEntry_bytes block n ho
  rw [settingsOf_modes, settingsOf_rejected, settingsOf_modeAdjusted, ← tolerance, ← matches', ← misses]
  have isEnabled : enabled ↔ (rawModeEntry block n).enabled = true := by rw [henabled, enable]
  have isValid : valid ↔ (rawModeEntry block n).Valid := by
    rw [hvalid, ← entryValid_iff hcore, RawModeEntry.Valid, code, pexp, hperiod]
  rw [isEnabled, isValid]
  refine ⟨fun unusable => ?_, ?_, fun ⟨on, c, hc, period⟩ => ?_⟩
  · obtain ⟨nothing, still, -⟩ := (rawModeEntry block n).unusable unusable
    exact ⟨nothing, still⟩
  · by_cases usable : (rawModeEntry block n).enabled = true ∧ (rawModeEntry block n).Valid
    · obtain ⟨on, c, hc, period⟩ := usable
      rw [((rawModeEntry block n).usable on hc period).2.1]
      exact ⟨fun no => (nomatch no), fun ⟨_, no⟩ => absurd ⟨c, hc, period⟩ no⟩
    · rw [((rawModeEntry block n).unusable usable).2.2]
      exact ⟨fun on => ⟨on, fun valid => usable ⟨on, valid⟩⟩, And.left⟩
  · obtain ⟨stands, -, adjusted⟩ := (rawModeEntry block n).usable on hc period
    refine ⟨_, stands, ?_, pexp.trans hperiod.symm, clamp_eq _ _ _ (by omega), clamp_eq _ _ _ (by omega), clamp_eq _ _ _ (by omega), adjusted⟩
    rw [code] at hc
    rw [hcore]
    exact carrierCore hc

/-- The survey order is LANE for code 1 alone (R74). -/
theorem surveyOrderOf_lane (b : Byte) : surveyOrderOf b.toNat = .lane ↔ b = 1#8 := by
  unfold surveyOrderOf
  split
  · rename_i one
    exact ⟨fun _ => BitVec.eq_of_toNat_eq one, fun _ => rfl⟩
  · rename_i other
    exact ⟨fun no => (nomatch no), fun one => absurd (by rw [one]; rfl) other⟩

/-- The station adjustment flags by their places: the two trims, the eight Mode Entries, the survey order (spec/11). -/
theorem stationFlags_places (block : Vector Byte 256) :
    (stationFlags block).getLsbD 0 = decide (clampTrim (rawTrim block .a) ≠ rawTrim block .a) ∧
    (stationFlags block).getLsbD 1 = decide (clampTrim (rawTrim block .b) ≠ rawTrim block .b) ∧
    (stationFlags block).getLsbD 10 = decide (1 < (byteAt block 0x0C).toNat) ∧
    ∀ i, 11 ≤ i → (stationFlags block).getLsbD i = false := by
  simp only [stationFlags, flags_getLsbD]
  refine ⟨?_, ?_, ?_, fun i past => ?_⟩
  · by_cases same : clampTrim (rawTrim block .a) = rawTrim block .a <;> simp [same]
  · by_cases same : clampTrim (rawTrim block .b) = rawTrim block .b <;> simp [same]
  · rw [← field_one_eq_byteAt block _ (by omega)]
    rfl
  · rw [List.getD_eq_default _ _ (by simpa [allEntries] using past), Bool.and_false]

/-- Settles O54: the completion by `execStationBlock_loads` and `execStationBlock_discards`, the settings by `stationFlags_places` and
`settingsOf_entry`. -/
theorem stationBlockReadEndsLoad : Obligations.StationBlockReadEndsLoad := by
  refine ⟨fun s t block carries loading issued => ⟨fun signature version => ?_, fun reason wrong => ?_, ?_⟩,
    fun s t block carries abandoned => ?_, fun block g hg => ?_⟩
  · refine Gives.of_settle (((execStationBlock_loads carries loading issued).1 block).trans ?_)
    rw [State.finishLoad, blockFault_none signature version]
    rfl
  · refine Gives.of_settle (((execStationBlock_loads carries loading issued).1 block).trans ?_)
    rw [State.finishLoad_wrong _ wrong]
    rfl
  · refine ⟨_, (execStationBlock_loads carries loading issued).2, ?_, ?_, ?_, ?_, State.settle_stationOwed rfl⟩
    · rw [State.settle_link]
      rfl
    · rw [State.settle_link]
      rfl
    · rw [State.settle_station]
      rfl
    · rw [State.settle_link]
      simp [State.enterFaulted, Cause.bit]
  · obtain ⟨data, error⟩ := execStationBlock_discards carries abandoned
    exact ⟨.of_settle (data block), .of_settle error⟩
  · obtain ⟨trimA, trimB, order, past⟩ := stationFlags_places block
    subst hg
    refine ⟨clampTrim_eq _, clampTrim_eq _, field_one_eq_byteAt block _ (by omega), field_one_eq_byteAt block _ (by omega), ?_,
      field_one_eq_byteAt block _ (by omega), trimA, trimB, order, past, settingsOf_entry block⟩
    rw [← surveyOrderOf_lane, ← field_one_eq_byteAt block _ (by omega)]
    rfl

end Sys2Proof.Machine
end

section
namespace Sys2Proof.Machine

/-! PROOFS. Transmission mode recognition (spec/02): the recognizer case by case, a symbol report step by step, then the statements of the
family. -/

/-! ### Which entries are allowed and which contain P (R19) -/

theorem mem_allowedSet {modes : ModeTable} {policy : ModePolicy} {m : EntryId} :
    m ∈ allowedSet modes policy ↔ modes[m].isSome = true ∧ (policy = .auto ∨ policy = .fixed m) := by
  cases policy with
  | auto => simp [allowedSet, mem_allEntries]
  | fixed k => simp [allowedSet, mem_allEntries, eq_comm (a := k)]

theorem allowedSet_sorted (modes : ModeTable) (policy : ModePolicy) : (allowedSet modes policy).Pairwise (· < ·) :=
  List.Pairwise.filter _ (by decide : allEntries.Pairwise (· < ·))

theorem ModeEntry.contains_iff {e : ModeEntry} {period : Nat} :
    e.contains period = true ↔ ((period : Int) - e.period).natAbs ≤ e.tolerance := by
  simp only [ModeEntry.contains, Bool.and_eq_true, decide_eq_true_eq]
  omega

theorem entryContains_iff {modes : ModeTable} {period : Nat} {m : EntryId} :
    entryContains modes period m = true ↔ ∃ e, modes[m] = some e ∧ e.contains period = true := by
  unfold entryContains
  cases modes[m] <;> simp

/-- In a list in rising order the first entry to meet a condition is the smallest that does. -/
theorem find?_eq_some_iff_least {p : EntryId → Bool} {l : List EntryId} (sorted : l.Pairwise (· < ·)) {m : EntryId} :
    l.find? p = some m ↔ m ∈ l ∧ p m = true ∧ ∀ k ∈ l, p k = true → m ≤ k := by
  induction l with
  | nil => simp
  | cons a as ih =>
    obtain ⟨first, sorted⟩ := List.pairwise_cons.1 sorted
    cases meets : p a with
    | true =>
      rw [List.find?_cons_of_pos meets, Option.some_inj]
      constructor
      · rintro rfl
        refine ⟨List.mem_cons_self, meets, fun k hk _ => ?_⟩
        rcases List.mem_cons.1 hk with rfl | later
        · exact le_rfl
        · exact (first k later).le
      · rintro ⟨hm, -, least⟩
        rcases List.mem_cons.1 hm with rfl | later
        · rfl
        · exact absurd (least a List.mem_cons_self meets) (not_le.2 (first m later))
    | false =>
      rw [List.find?_cons_of_neg (by simp [meets]), ih sorted]
      simp only [List.mem_cons, forall_eq_or_imp, meets, Bool.false_eq_true, false_implies, true_and]
      refine and_congr_left fun ⟨holds, _⟩ => ⟨.inr, fun either => either.resolve_left ?_⟩
      rintro rfl
      simp [meets] at holds

theorem lowestMatch_eq_some_iff {modes : ModeTable} {policy : ModePolicy} {period : Nat} {m : EntryId} :
    lowestMatch modes (allowedSet modes policy) period = some m ↔ m ∈ allowedSet modes policy ∧ entryContains modes period m = true ∧
      ∀ k ∈ allowedSet modes policy, entryContains modes period k = true → m ≤ k :=
  find?_eq_some_iff_least (allowedSet_sorted modes policy)

section
variable {r : Recognizer} {modes : ModeTable} {allowed : List EntryId} {period : Nat} {c : EntryId} {e : ModeEntry}

theorem lowestMatch_eq_none (outside : ∀ m ∈ allowed, entryContains modes period m = false) : lowestMatch modes allowed period = none :=
  List.find?_eq_none.2 fun m hm => by simp [outside m hm]

/-- An entry whose window does not contain P is not the lowest match. -/
theorem lowestMatch_ne (usable : modes[c] = some e) (outside : e.contains period = false) : lowestMatch modes allowed period ≠ some c := by
  intro found
  obtain ⟨f, hf, inside⟩ := entryContains_iff.1 (List.find?_some found)
  cases hf.symm.trans usable
  rw [outside] at inside
  cases inside

/-! ### The candidate search, case by case (R22 to R25) -/

theorem Recognizer.form_candidate (r : Recognizer) (found : Option EntryId) : (r.form found).candidate = found := by
  cases found <;> rfl

theorem Recognizer.search_finds_none (candidate : r.candidate = none) (none : lowestMatch modes allowed period = none) :
    r.search modes allowed period = (r, .quiet) := by
  simp only [Recognizer.search, candidate, none]

theorem Recognizer.search_forms {m : EntryId} (candidate : r.candidate = none) (found : lowestMatch modes allowed period = some m) :
    r.search modes allowed period = (r.form (some m), .quiet) := by
  simp only [Recognizer.search, candidate, found]

theorem Recognizer.search_matches (candidate : r.candidate = some c) (usable : modes[c] = some e) (inside : e.contains period = true)
    (short : r.matchesHeld + 1 < e.matchCount) :
    r.search modes allowed period = ({ r with matchesHeld := r.matchesHeld + 1, missesHeld := 0 }, .quiet) := by
  simp only [Recognizer.search, candidate, usable, inside, if_true, if_neg (Nat.not_le.2 short)]

theorem Recognizer.search_recognises (candidate : r.candidate = some c) (usable : modes[c] = some e) (inside : e.contains period = true)
    (reached : e.matchCount ≤ r.matchesHeld + 1) : r.search modes allowed period = (.recognise c, .recognition) := by
  simp only [Recognizer.search, candidate, usable, inside, if_true, if_pos reached]

theorem Recognizer.search_misses (candidate : r.candidate = some c) (usable : modes[c] = some e) (outside : e.contains period = false)
    (short : r.missesHeld + 1 < e.missCount) :
    r.search modes allowed period = ({ r with missesHeld := r.missesHeld + 1 }, .quiet) := by
  simp only [Recognizer.search, candidate, usable, outside, Bool.false_eq_true, if_false, if_neg (Nat.not_le.2 short)]

theorem Recognizer.search_drops (candidate : r.candidate = some c) (usable : modes[c] = some e) (outside : e.contains period = false)
    (reached : e.missCount ≤ r.missesHeld + 1) :
    r.search modes allowed period = (r.form (lowestMatch modes allowed period), .quiet) := by
  simp only [Recognizer.search, candidate, usable, outside, Bool.false_eq_true, if_false, if_pos reached]

/-! ### The mode check, case by case (R27, R28) -/

theorem Recognizer.check_inside (known : r.recognised = some c) (usable : modes[c] = some e) (inside : e.contains period = true) :
    r.check modes period = ({ r with lossCount := 0 }, .quiet) := by
  simp only [Recognizer.check, known, usable, inside, if_true]

theorem Recognizer.check_outside (known : r.recognised = some c) (usable : modes[c] = some e) (outside : e.contains period = false)
    (short : r.lossCount + 1 < e.missCount) : r.check modes period = ({ r with lossCount := r.lossCount + 1 }, .quiet) := by
  simp only [Recognizer.check, known, usable, outside, Bool.false_eq_true, if_false, if_neg (Nat.not_le.2 short)]

theorem Recognizer.check_loses (known : r.recognised = some c) (usable : modes[c] = some e) (outside : e.contains period = false)
    (reached : e.missCount ≤ r.lossCount + 1) : r.check modes period = ({ r with lossCount := r.lossCount + 1 }, .modeLoss) := by
  simp only [Recognizer.check, known, usable, outside, Bool.false_eq_true, if_false, if_pos reached]

end

/-- Settles O16: the allowed set and its least match, then the search in each of its cases. -/
theorem candidateSearch : Obligations.CandidateSearch := by
  refine ⟨fun modes policy period m => ⟨mem_allowedSet, ?_, lowestMatch_eq_some_iff⟩,
    fun r modes allowed period => ⟨?_, ?_, ?_, ?_, ?_, ?_, ?_⟩⟩
  · simp only [entryContains_iff, ModeEntry.contains_iff]
  · exact fun candidate none => Recognizer.search_finds_none candidate (lowestMatch_eq_none none)
  · exact fun m candidate found => Recognizer.search_forms candidate found
  · exact fun c e candidate usable inside short => Recognizer.search_matches candidate usable inside short
  · exact fun c e candidate usable inside reached => Recognizer.search_recognises candidate usable inside reached
  · exact fun c e candidate usable outside short => Recognizer.search_misses candidate usable outside short
  · intro c e candidate usable outside reached
    rw [Recognizer.search_drops candidate usable outside reached, Recognizer.form_candidate]
    exact ⟨rfl, rfl, lowestMatch_ne usable outside⟩
  · intro c e candidate usable outside reached
    rw [Recognizer.search_drops candidate usable outside reached]
    rfl

end Sys2Proof.Machine
end

section
namespace Sys2Proof.Machine

theorem LanePhase.recognised.ne_off {phase : LanePhase} (h : phase.recognised = true) : phase ≠ .off := by
  rintro rfl
  cases h

/-! ### Step one of a report: the verdict (R36, R38) -/

/-- The lane after step one of a report that is not excused, with `hits` as b (R36). -/
def Lane.afterTaken (l : Lane) (hits : Nat) : Lane :=
  { l with tap := { l.tap with hit := false }, tracker := { l.tracker with hits := hits } }

/-- The lane after step one of an excused report (R36, R38). -/
def Lane.passedOver (l : Lane) : Lane :=
  { l with
    tap := { l.tap with hit := false }
    tracker := { l.tracker with hits := l.tracker.hits + 1 }
    counters := { l.counters with blankedSymbols := satInc l.counters.blankedSymbols } }

section
variable {s : State} {n : LaneId} {p : TunePlan} {hits : Nat}

theorem TakenReport.applied (h : TakenReport s n p hits) : (s.lane n).applied = some p := h.1

theorem ExcusedReport.applied (h : ExcusedReport s n p) : (s.lane n).applied = some p := h.1

theorem TakenReport.hearHit (h : TakenReport s n p hits) : (s.lane n).hearHit p = ((s.lane n).afterTaken hits, false) := by
  obtain ⟨-, ⟨noHit, rfl⟩ | ⟨hit, reached, rfl⟩⟩ := h
  · simp [Lane.hearHit, Lane.afterTaken, blanking, noHit]
  · simp [Lane.hearHit, Lane.afterTaken, blanking, hit, Nat.not_lt.2 reached]

theorem ExcusedReport.hearHit (h : ExcusedReport s n p) : (s.lane n).hearHit p = ((s.lane n).passedOver, true) := by
  obtain ⟨-, hit, below, limit⟩ := h
  have small : min 255 ((s.lane n).tracker.hits + 1) = (s.lane n).tracker.hits + 1 := by omega
  simp [Lane.hearHit, Lane.passedOver, blanking, hit, below, small]

/-! ### Steps one to three of a report (R53) -/

/-- An excused report moves no recognizer and no accumulator. -/
theorem ExcusedReport.hear (h : ExcusedReport s n p) (r : SymbolReport) :
    (s.lane n).hear s.station p r = ((s.lane n).passedOver, { excused := true, event := .quiet, used := false }) := by
  simp [Lane.hear, h.hearHit, Lane.recognize]

/-- In SEEK a report that is not excused moves the candidate search and is no used sample (R22, R39). -/
theorem TakenReport.hear_seek {r : SymbolReport} {rec : Recognizer} {event : RecognizerEvent} (h : TakenReport s n p hits)
    (seek : (s.lane n).phase = .seek)
    (search : (s.lane n).recognizer.search s.station.modes (allowedSet s.station.modes p.modePolicy) r.period = (rec, event)) :
    (s.lane n).hear s.station p r =
      ({ (s.lane n).afterTaken hits with recognizer := rec }, { excused := false, event := event, used := false }) := by
  simp [Lane.hear, h.hearHit, Lane.recognize, Lane.afterTaken, seek, LanePhase.recognised, search]

/-- A mode loss is no used sample (R28, R39). -/
theorem TakenReport.hear_loss {r : SymbolReport} {rec : Recognizer} (h : TakenReport s n p hits)
    (recognised : (s.lane n).phase.recognised = true) (check : (s.lane n).recognizer.check s.station.modes r.period = (rec, .modeLoss)) :
    (s.lane n).hear s.station p r =
      ({ (s.lane n).afterTaken hits with recognizer := rec }, { excused := false, event := .modeLoss, used := false }) := by
  simp [Lane.hear, h.hearHit, Lane.recognize, Lane.afterTaken, recognised, check]

section
variable {period : Fin 16384} {signal error : BitVec 16} {u : UsedSample}

theorem UsedReport.taken (h : UsedReport s n p period signal error u) : TakenReport s n p u.hits := h.1

theorem UsedReport.applied (h : UsedReport s n p period signal error u) : (s.lane n).applied = some p := h.taken.applied

theorem UsedReport.check (h : UsedReport s n p period signal error u) :
    (s.lane n).recognizer.check s.station.modes period.val = ({ (s.lane n).recognizer with lossCount := u.losses }, .quiet) := by
  obtain ⟨-, -, set, c, e, -, known, usable, ⟨inside, losses⟩ | ⟨outside, short, losses⟩, -⟩ := h
  · rw [Recognizer.check_inside known usable inside, losses]
  · rw [Recognizer.check_outside known usable outside short, losses]

theorem UsedReport.sample (h : UsedReport s n p period signal error u) :
    ({ (s.lane n).afterTaken u.hits with recognizer := { (s.lane n).recognizer with lossCount := u.losses } } : Lane).sample
      s.station p signal error = (s.lane n).afterUsed u := by
  obtain ⟨-, raw, set, c, e, tap, -, -, -, qacc⟩ := h
  simp only [Lane.sample, Lane.afterTaken, Lane.afterUsed, Lane.reportMast, QualityTracker.take, tap, qacc, raw]

/-- In TRACK, LOCK and FADE a used report checks the mode and moves the accumulator (R27, R39 to R41). -/
theorem UsedReport.hear (h : UsedReport s n p period signal error u) (recognised : (s.lane n).phase.recognised = true) (frame : Bool) :
    (s.lane n).hear s.station p { period := period.val, signal := signal, error := error, frameStart := frame } =
      ((s.lane n).afterUsed u, { excused := false, event := .quiet, used := true }) := by
  have sampled := h.sample
  simp only [Lane.afterTaken] at sampled
  simp [Lane.hear, h.taken.hearHit, Lane.recognize, Lane.afterTaken, recognised, h.check, sampled]

end
end

end Sys2Proof.Machine
end

section
namespace Sys2Proof.Machine

section
variable {s : State} {n : LaneId} {l : Lane} {p : TunePlan}

/-! ### Step four of a report: entries and runs from a lane just replaced (R54 to R61) -/

@[simp] theorem State.setLane_modLane (s : State) (n : LaneId) (l : Lane) (f : Lane → Lane) :
    (s.setLane n l).modLane n f = s.setLane n (f l) := by
  rw [State.modLane, State.setLane_lane_self, State.setLane_setLane]

theorem State.setLane_enterSeek (s : State) (n : LaneId) (l : Lane) (p : TunePlan) :
    (s.setLane n l).enterSeek n p = s.afterSeekEntry n l p := by
  rw [State.enterSeek, State.setLane_modLane]
  rfl

theorem State.setLane_enterTrack (s : State) (n : LaneId) (l : Lane) (p : TunePlan) :
    (s.setLane n l).enterTrack n p = ((s.setLane n (l.enterTrack s.time)).oweLane n).raiseIf p.notify.state .lane := by
  rw [State.enterTrack, State.setLane_modLane, State.setLane_time]

theorem State.setLane_enterLock (s : State) (n : LaneId) (l : Lane) (p : TunePlan) :
    (s.setLane n l).enterLock n p = ((s.setLane n (l.enterLock p s.time)).oweLane n).raiseIf p.notify.state .lane := by
  rw [State.enterLock, State.setLane_modLane, State.setLane_time]

theorem State.setLane_recoverLock (s : State) (n : LaneId) (l : Lane) (p : TunePlan) :
    (s.setLane n l).recoverLock n p = ((s.setLane n (l.recover s.time)).oweLane n).raiseIf p.notify.state .lane := by
  rw [State.recoverLock, State.setLane_modLane, State.setLane_time]

theorem State.setLane_enterFade (s : State) (n : LaneId) (l : Lane) (p : TunePlan) :
    (s.setLane n l).enterFade n p = (State.oweLane (if p.mastPolicy.isAuto = true then (s.setLane n (l.enterFade s.time)).fadeRequest n
      else s.setLane n (l.enterFade s.time)) n).raiseIf p.notify.state .lane := by
  rw [State.enterFade, State.setLane_modLane, State.setLane_time]

/-- Without a pending plan leaving for SEEK is the entry alone (R54, R107). -/
theorem State.setLane_leaveForSeek (nothing : l.pendingPlan = none) : (s.setLane n l).leaveForSeek n p = s.afterSeekEntry n l p := by
  have held : ((s.afterSeekEntry n l p).lane n).pendingPlan = none := by
    simpa [State.afterSeekEntry, Lane.afterSeekEntry] using nothing
  rw [State.leaveForSeek, State.setLane_enterSeek, State.takePending, held]

theorem nextRun_decide (c : Prop) [Decidable c] (run : Nat) : nextRun (decide c) run = if c then run + 1 else 0 := by
  simp [nextRun]

/-- A used sample in TRACK moves the lock-in count, and at CL the lane enters LOCK (R57, R58). -/
theorem State.setLane_actTrack {run : Nat} (counts : run = if p.lockThreshold ≤ l.tracker.qi then l.lockIn + 1 else 0) :
    (s.setLane n l).actTrack n p true =
      if p.lockCount ≤ run then
        ((s.setLane n (Lane.enterLock { l with lockIn := run } p s.time)).oweLane n).raiseIf p.notify.state .lane
      else s.setLane n { l with lockIn := run } := by
  simp only [State.actTrack, if_true, State.setLane_lane_self, State.setLane_modLane, nextRun_decide, ← counts, State.setLane_enterLock]

/-- A used sample in LOCK moves the fade count, and at CF the lane enters FADE (R59). -/
theorem State.setLane_actLock {run : Nat} (counts : run = if l.tracker.qi < p.unlockThreshold then l.fadeRun + 1 else 0) :
    (s.setLane n l).actLock n p true =
      if p.fadeCount ≤ run then (s.setLane n { l with fadeRun := run }).enterFade n p else s.setLane n { l with fadeRun := run } := by
  simp only [State.actLock, if_true, State.setLane_lane_self, State.setLane_modLane, nextRun_decide, ← counts]

/-- A used sample in FADE moves the recover count; at CR the lane recovers, and short of it the hold limit is looked at (R60, R61). -/
theorem State.setLane_actFade_used {run : Nat} (counts : run = if p.lockThreshold ≤ l.tracker.qi then l.recoverRun + 1 else 0) :
    (s.setLane n l).actFade n p true =
      if p.recoverCount ≤ run then (s.setLane n { l with recoverRun := run, hold := l.hold + 1 }).recoverLock n p
      else if p.holdLimit ≤ l.hold + 1 then (s.setLane n { l with recoverRun := run, hold := l.hold + 1 }).leaveForSeek n p
      else s.setLane n { l with recoverRun := run, hold := l.hold + 1 } := by
  simp only [State.actFade, if_true, State.setLane_lane_self, State.setLane_modLane, nextRun_decide, ← counts, Bool.true_and,
    decide_eq_true_eq]

/-- A report in FADE that is no used sample moves the hold count alone (R61). -/
theorem State.setLane_actFade_unused :
    (s.setLane n l).actFade n p false =
      if p.holdLimit ≤ l.hold + 1 then (s.setLane n { l with hold := l.hold + 1 }).leaveForSeek n p
      else s.setLane n { l with hold := l.hold + 1 } := by
  simp only [State.actFade, Bool.false_eq_true, if_false, State.setLane_lane_self, State.setLane_modLane, Bool.false_and]

theorem State.setLane_act_track (track : l.phase = .track) (excused used : Bool) :
    (s.setLane n l).actOnReport n p { excused := excused, event := .quiet, used := used } = (s.setLane n l).actTrack n p used := by
  simp only [State.actOnReport, State.setLane_lane_self, track]

theorem State.setLane_act_lock (lock : l.phase = .lock) (excused used : Bool) :
    (s.setLane n l).actOnReport n p { excused := excused, event := .quiet, used := used } = (s.setLane n l).actLock n p used := by
  simp only [State.actOnReport, State.setLane_lane_self, lock]

theorem State.setLane_act_fade (fade : l.phase = .fade) (excused used : Bool) :
    (s.setLane n l).actOnReport n p { excused := excused, event := .quiet, used := used } = (s.setLane n l).actFade n p used := by
  simp only [State.actOnReport, State.setLane_lane_self, fade]

/-! ### Step five, and the switch at the symbol end (R90, R105) -/

theorem State.frameStartApply_nothing {t : State} {frame : Bool} (nothing : frame = false ∨ (t.lane n).pendingPlan = none) :
    t.frameStartApply n frame = t := by
  rcases nothing with rfl | nothing
  · rfl
  · cases frame
    · rfl
    · simp only [State.frameStartApply, if_true, State.takePending, nothing]

theorem State.switchAtSymbolEnd_nothing {t : State} (nothing : (t.lane n).switchOrder = none ∨ (t.lane n).phase.delivers = false) :
    t.switchAtSymbolEnd n = t := by
  unfold State.switchAtSymbolEnd
  simp only
  split
  · rename_i mean q order _
    rcases nothing with none | quiet
    · rw [none] at order
      cases order
    · simp [quiet]
  · rfl

/-! ### The command (R53) -/

theorem execSymbolReport_taken (on : (s.lane n).phase ≠ .off) (applied : (s.lane n).applied = some p) (period : Fin 16384)
    (signal error : BitVec 16) (frame : Bool) : exec (.symbolReport n period signal error frame) s =
      .next (s.takeReport n p { period := period.val, signal := signal, error := error, frameStart := frame }).settle := by
  cases hp : (s.lane n).phase
  case off => exact absurd hp on
  all_goals simp only [exec, execSymbolReport, hp, applied]

/-- A report in which no plan is taken at a frame-start and no switch order carried out ends with what step four gives. -/
theorem Gives.symbolReport {t : State} {v : ReportVerdict} {period : Fin 16384} {signal error : BitVec 16} {frame : Bool}
    (on : (s.lane n).phase ≠ .off) (applied : (s.lane n).applied = some p)
    (hears : (s.lane n).hear s.station p { period := period.val, signal := signal, error := error, frameStart := frame } = (l, v))
    (acts : (s.setLane n l).actOnReport n p v = t) (noPlan : frame = false ∨ (t.lane n).pendingPlan = none)
    (noSwitch : (t.lane n).switchOrder = none ∨ (t.lane n).phase.delivers = false) :
    Gives (.symbolReport n period signal error frame) s t := by
  refine .of_settle ((execSymbolReport_taken on applied period signal error frame).trans ?_)
  rw [State.takeReport, hears, acts, State.frameStartApply_nothing noPlan, State.switchAtSymbolEnd_nothing noSwitch]

end

end Sys2Proof.Machine
end

section
namespace Sys2Proof.Machine

section
variable {s v : State} {n : LaneId} {l : Lane} {p : TunePlan} {u : UsedSample} {hits : Nat} {period : Fin 16384} {signal error : BitVec 16}
  {frame : Bool}

/-! ### What a used sample leaves alone in its lane -/

@[simp] theorem Lane.afterUsed_hold (l : Lane) (u : UsedSample) : (l.afterUsed u).hold = l.hold := rfl
@[simp] theorem Lane.afterUsed_pendingPlan (l : Lane) (u : UsedSample) : (l.afterUsed u).pendingPlan = l.pendingPlan := rfl
@[simp] theorem Lane.afterUsed_switchOrder (l : Lane) (u : UsedSample) : (l.afterUsed u).switchOrder = l.switchOrder := rfl

/-! ### Excused reports (R29, R61) -/

/-- Step four of an excused report: nothing, or in FADE one report more toward the hold limit (R61). -/
theorem State.actOnReport_excused (on : l.phase ≠ .off) (short : l.phase = .fade → l.hold + 1 < p.holdLimit) :
    (s.setLane n l.passedOver).actOnReport n p { excused := true, event := .quiet, used := false } = s.setLane n l.afterExcused := by
  cases hp : l.phase
  case off => exact absurd hp on
  case seek => simp [State.actOnReport, Lane.passedOver, Lane.afterExcused, hp]
  case track =>
    rw [State.setLane_act_track (l := l.passedOver) hp]
    simp [State.actTrack, Lane.passedOver, Lane.afterExcused, hp]
  case lock =>
    rw [State.setLane_act_lock (l := l.passedOver) hp]
    simp [State.actLock, Lane.passedOver, Lane.afterExcused, hp]
  case fade =>
    have below : ¬ p.holdLimit ≤ l.passedOver.hold + 1 := Nat.not_le.2 (short hp)
    rw [State.setLane_act_fade (l := l.passedOver) hp, State.setLane_actFade_unused, if_neg below]
    simp only [Lane.passedOver, Lane.afterExcused, hp, if_true]

/-- Settles O17: an excused report moves no recognizer and no accumulator (`ExcusedReport.hear`), and step four adds the hold count in FADE. -/
theorem excusedReportIsPassedOver : Obligations.ExcusedReportIsPassedOver := by
  intro s n p period signal error frame on applied hit below limit noOrder short noPlan
  have excused : ExcusedReport s n p := ⟨applied, hit, below, limit⟩
  refine Gives.symbolReport on applied (excused.hear _) (State.actOnReport_excused on short) ?_ (.inl ?_)
  · rw [State.setLane_lane_self]
    exact noPlan
  · rw [State.setLane_lane_self]
    exact noOrder

/-! ### Non-excused reports in SEEK, used samples in TRACK (R25, R56 to R58) -/

/-- The report that completes a recognition takes the lane to TRACK (R25, R56). -/
theorem TakenReport.gives_track {c : EntryId} {e : ModeEntry} (taken : TakenReport s n p hits) (seek : (s.lane n).phase = .seek)
    (noPlan : frame = false ∨ (s.lane n).pendingPlan = none) (candidate : (s.lane n).recognizer.candidate = some c)
    (usable : s.station.modes[c] = some e) (inside : e.contains period.val = true)
    (reached : e.matchCount ≤ (s.lane n).recognizer.matchesHeld + 1) :
    Gives (.symbolReport n period signal error frame) s
      (((s.setLane n (Lane.enterTrack { (s.lane n).afterTaken hits with recognizer := .recognise c } s.time)).oweLane n).raiseIf
        p.notify.state .lane) := by
  refine Gives.symbolReport (by simp [seek]) taken.applied
    (taken.hear_seek seek (Recognizer.search_recognises candidate usable inside reached)) (State.setLane_enterTrack s n _ p) ?_ (.inr ?_)
  · simpa [Lane.enterTrack, Lane.afterTaken] using noPlan
  · simp [Lane.enterTrack, LanePhase.delivers]

/-- Any other non-excused report in SEEK moves the search alone (R22 to R24). -/
theorem TakenReport.gives_search {r : Recognizer} (taken : TakenReport s n p hits) (seek : (s.lane n).phase = .seek)
    (noPlan : (s.lane n).pendingPlan = none)
    (search : (s.lane n).recognizer.search s.station.modes (allowedSet s.station.modes p.modePolicy) period.val = (r, .quiet)) :
    Gives (.symbolReport n period signal error frame) s (s.setLane n { (s.lane n).afterTaken hits with recognizer := r }) := by
  refine Gives.symbolReport (by simp [seek]) taken.applied (taken.hear_seek seek search) ?_ (.inr ?_) (.inr ?_)
  · simp [State.actOnReport, Lane.afterTaken, seek]
  · rw [State.setLane_lane_self]
    exact noPlan
  · simp [Lane.afterTaken, seek, LanePhase.delivers]

/-- A used sample in TRACK, short of CL and at CL (R57, R58). -/
theorem UsedReport.acts_track {run : Nat} (track : (s.lane n).phase = .track)
    (counts : run = if p.lockThreshold ≤ u.qi then (s.lane n).lockIn + 1 else 0) :
    (s.setLane n ((s.lane n).afterUsed u)).actOnReport n p { excused := false, event := .quiet, used := true } =
      if p.lockCount ≤ run then
        ((s.setLane n (Lane.enterLock { (s.lane n).afterUsed u with lockIn := run } p s.time)).oweLane n).raiseIf p.notify.state .lane
      else s.setLane n { (s.lane n).afterUsed u with lockIn := run } := by
  rw [State.setLane_act_track (l := (s.lane n).afterUsed u) track]
  exact State.setLane_actTrack counts

/-- Settles O18: a recognition, any other report in SEEK, a used sample in TRACK. -/
theorem recognitionEntersTrack : Obligations.RecognitionEntersTrack := by
  refine ⟨fun s n p c e period signal error frame hits seek noPlan taken candidate usable inside reached => ?_,
    fun s n p period signal error frame hits r seek taken noPlan search => ?_,
    fun s n p period signal error frame u run track used noOrder noPlan counts => ⟨fun short => ?_, fun reached => ?_⟩⟩
  · exact taken.gives_track seek noPlan candidate usable inside reached
  · exact taken.gives_search seek noPlan search
  · refine Gives.symbolReport (by simp [track]) used.applied (used.hear (by simp [track, LanePhase.recognised]) frame)
      ((UsedReport.acts_track track counts).trans (if_neg (Nat.not_le.2 short))) ?_ (.inl ?_)
    · rw [State.setLane_lane_self]
      exact noPlan
    · rw [State.setLane_lane_self]
      exact noOrder
  · refine Gives.symbolReport (by simp [track]) used.applied (used.hear (by simp [track, LanePhase.recognised]) frame)
      ((UsedReport.acts_track track counts).trans (if_pos reached)) ?_ (.inl ?_)
    · simpa [Lane.enterLock] using noPlan
    · simpa [Lane.enterLock] using noOrder

/-! ### Used samples in LOCK and FADE (R59 to R61) -/

theorem UsedReportStays.recognised (stays : UsedReportStays s n p u v) : (s.lane n).phase.recognised = true := by
  rcases stays with ⟨phase, -⟩ | ⟨phase, -⟩ <;> rw [phase] <;> rfl

/-- Step four of a used report that leaves the lane in LOCK or FADE, below and at CF, below and at CR. -/
theorem UsedReportStays.acts (stays : UsedReportStays s n p u v) :
    (s.setLane n ((s.lane n).afterUsed u)).actOnReport n p { excused := false, event := .quiet, used := true } = v := by
  rcases stays with ⟨phase, run, counts, outcome⟩ | ⟨phase, run, counts, outcome⟩
  · rw [State.setLane_act_lock (l := (s.lane n).afterUsed u) phase, State.setLane_actLock (l := (s.lane n).afterUsed u) counts]
    rcases outcome with ⟨short, rfl⟩ | ⟨reached, t, rfl, rfl⟩
    · rw [if_neg (Nat.not_le.2 short)]
    · rw [if_pos reached, State.setLane_enterFade]
      rfl
  · rw [State.setLane_act_fade (l := (s.lane n).afterUsed u) phase, State.setLane_actFade_used (l := (s.lane n).afterUsed u) counts]
    rcases outcome with ⟨short, held, rfl⟩ | ⟨reached, rfl⟩
    · rw [if_neg (Nat.not_le.2 short), Lane.afterUsed_hold, if_neg (Nat.not_le.2 held)]
    · rw [if_pos reached, State.setLane_recoverLock]
      rfl

/-- Such a report touches neither the pending plan nor the switch order of its lane. -/
theorem UsedReportStays.waiting (stays : UsedReportStays s n p u v) :
    (v.lane n).pendingPlan = (s.lane n).pendingPlan ∧ (v.lane n).switchOrder = (s.lane n).switchOrder := by
  rcases stays with ⟨-, run, -, ⟨-, rfl⟩ | ⟨-, t, rfl, rfl⟩⟩ | ⟨-, run, -, ⟨-, -, rfl⟩ | ⟨-, rfl⟩⟩
  case inl.inr =>
    rw [State.raiseIf_lane, State.oweLane_lane]
    split
    · rw [State.fadeRequest_lane, State.setLane_lane_self]
      exact ⟨rfl, rfl⟩
    · rw [State.setLane_lane_self]
      exact ⟨rfl, rfl⟩
  all_goals simp

theorem UsedReport.gives_stays (used : UsedReport s n p period signal error u) (stays : UsedReportStays s n p u v)
    (noOrder : (s.lane n).switchOrder = none) (noPlan : frame = false ∨ (s.lane n).pendingPlan = none) :
    Gives (.symbolReport n period signal error frame) s v := by
  obtain ⟨plan, order⟩ := stays.waiting
  exact Gives.symbolReport (LanePhase.recognised.ne_off stays.recognised) used.applied (used.hear stays.recognised frame) stays.acts
    (plan ▸ noPlan) (.inl (order.trans noOrder))

/-- Settles O19: `UsedReport.gives_stays`, whose case below CF without a hit and in the window is the first clause. -/
theorem usedReportInLockMovesQuality : Obligations.UsedReportInLockMovesQuality := by
  refine ⟨fun s n p c e set period signal error frame sample q lock applied noHit noPlan tap seeded noOrder known usable inside hs hq
      short positive => ?_,
    fun s v n p period signal error frame u used stays noOrder noPlan => used.gives_stays stays noOrder noPlan⟩
  have used : UsedReport s n p period signal error { raw := rawSample signal error, qacc := q, losses := 0, hits := 0 } :=
    ⟨⟨applied, .inl ⟨noHit, rfl⟩⟩, rfl, set, c, e, tap, known, usable, .inl ⟨inside, rfl⟩, by rw [if_pos seeded, hq, hs]⟩
  have below : (if (q + 128) / 256 < p.unlockThreshold then (s.lane n).fadeRun + 1 else 0) < p.fadeCount := by
    split
    · exact short ‹_›
    · exact positive
  exact used.gives_stays (.inl ⟨lock, _, rfl, .inl ⟨below, rfl⟩⟩) noOrder noPlan

end

end Sys2Proof.Machine
end

section
namespace Sys2Proof.Machine

section
variable {s : State} {n : LaneId} {l : Lane} {p : TunePlan} {u : UsedSample} {hits : Nat} {period : Fin 16384} {signal error : BitVec 16}
  {frame : Bool}

/-! ### A lane that goes to SEEK (R54, R61, R62) -/

theorem State.afterSeekEntry_lane (s : State) (n : LaneId) (l : Lane) (p : TunePlan) :
    (s.afterSeekEntry n l p).lane n = l.afterSeekEntry p s.time := by
  simp [State.afterSeekEntry]

/-- A report by which a lane without a pending plan enters SEEK ends with the entry: no plan and no switch order waits there. -/
theorem Gives.symbolReport_seek {l' : Lane} {v : ReportVerdict} (on : (s.lane n).phase ≠ .off) (applied : (s.lane n).applied = some p)
    (hears : (s.lane n).hear s.station p { period := period.val, signal := signal, error := error, frameStart := frame } = (l', v))
    (acts : (s.setLane n l').actOnReport n p v = s.afterSeekEntry n l p) (noPlan : l.pendingPlan = none) :
    Gives (.symbolReport n period signal error frame) s (s.afterSeekEntry n l p) := by
  refine Gives.symbolReport on applied hears acts (.inr ?_) (.inl ?_)
  · rw [State.afterSeekEntry_lane]
    exact noPlan
  · rw [State.afterSeekEntry_lane]
    rfl

/-- A mode loss in TRACK, LOCK or FADE (R28, R62). -/
theorem TakenReport.gives_seek {c : EntryId} {e : ModeEntry} (taken : TakenReport s n p hits)
    (recognised : (s.lane n).phase.recognised = true) (noPlan : (s.lane n).pendingPlan = none)
    (known : (s.lane n).recognizer.recognised = some c) (usable : s.station.modes[c] = some e) (outside : e.contains period.val = false)
    (reached : e.missCount ≤ (s.lane n).recognizer.lossCount + 1) :
    Gives (.symbolReport n period signal error frame) s (s.afterSeekEntry n (s.lane n) p) := by
  refine Gives.symbolReport_seek (LanePhase.recognised.ne_off recognised) taken.applied
    (taken.hear_loss recognised (Recognizer.check_loses known usable outside reached)) ?_ noPlan
  exact State.setLane_leaveForSeek noPlan

/-- The hold limit on a used report that does not recover (R61). -/
theorem UsedReport.gives_seek {run : Nat} (used : UsedReport s n p period signal error u) (fade : (s.lane n).phase = .fade)
    (noPlan : (s.lane n).pendingPlan = none) (limit : p.holdLimit ≤ (s.lane n).hold + 1)
    (counts : run = if p.lockThreshold ≤ u.qi then (s.lane n).recoverRun + 1 else 0) (short : run < p.recoverCount) :
    Gives (.symbolReport n period signal error frame) s (s.afterSeekEntry n ((s.lane n).afterUsed u) p) := by
  refine Gives.symbolReport_seek (by simp [fade]) used.applied (used.hear (by simp [fade, LanePhase.recognised]) frame) ?_ noPlan
  rw [State.setLane_act_fade (l := (s.lane n).afterUsed u) fade, State.setLane_actFade_used (l := (s.lane n).afterUsed u) counts,
    if_neg (Nat.not_le.2 short), Lane.afterUsed_hold, if_pos limit]
  exact State.setLane_leaveForSeek (l := { (s.lane n).afterUsed u with recoverRun := run, hold := (s.lane n).hold + 1 }) noPlan

/-- The hold limit on an excused report (R61). -/
theorem ExcusedReport.gives_seek (excused : ExcusedReport s n p) (fade : (s.lane n).phase = .fade)
    (noPlan : (s.lane n).pendingPlan = none) (limit : p.holdLimit ≤ (s.lane n).hold + 1) :
    Gives (.symbolReport n period signal error frame) s (s.afterSeekEntry n (s.lane n).afterExcused p) := by
  have reached : p.holdLimit ≤ (s.lane n).passedOver.hold + 1 := limit
  refine Gives.symbolReport_seek (by simp [fade]) excused.applied (excused.hear _) ?_ noPlan
  rw [State.setLane_act_fade (l := (s.lane n).passedOver) fade, State.setLane_actFade_unused, if_pos reached]
  refine (State.setLane_leaveForSeek (l := { (s.lane n).passedOver with hold := (s.lane n).hold + 1 }) noPlan).trans ?_
  simp only [Lane.afterExcused, Lane.passedOver, fade, if_true]

/-! ### What the Survey Unit does with its queue, and a withdrawal (R78, R80 to R82, R86) -/

/-- With no dwell running the Survey Unit's choice is that of R80 to R82. -/
theorem State.chooseSurvey_next (idle : s.survey.dwell = none) : NextChoice s s.chooseSurvey := by
  intro chosen choice
  have same : chooseRequest s.station.surveyOrder (s.survey.queue.filter s.eligible) = chosen := choice.symm
  refine ⟨fun nobody => ?_, fun r p chose applied => ?_⟩
  · simp only [State.chooseSurvey, idle, same, nobody]
  · simp only [State.chooseSurvey, idle, same, chose, State.startDwell, applied]
    rfl

theorem State.preempts_iff {d : Dwell} : s.preempts d ↔
    (d.cls == .lock && s.survey.queue.any (fun r => r.cls == .fade && r.lane != d.lane && s.eligible r)) = true := by
  simp only [State.preempts, Bool.and_eq_true, beq_iff_eq, List.any_eq_true, bne_iff_ne, State.eligible_iff, and_assoc]

/-- The Survey Unit's look at its queue: a choice, a preemption and then a choice, or nothing (R80, R86). -/
theorem State.surveySettle_acts (s : State) : SurveyUnitActs s s.surveySettle := by
  refine ⟨fun idle => ?_, fun d running => ⟨fun preempts => ?_, fun stays => ?_⟩⟩
  · have same : s.preempt = s := by
      simp only [State.preempt, idle]
    rw [State.surveySettle, same]
    exact State.chooseSurvey_next idle
  · rw [State.surveySettle, State.preempt, running]
    simp only
    rw [if_pos (State.preempts_iff.1 preempts)]
    exact State.chooseSurvey_next rfl
  · have same : s.preempt = s := by
      simp only [State.preempt, running]
      rw [if_neg (mt State.preempts_iff.2 stays)]
    rw [State.surveySettle, same, State.chooseSurvey, running]

/-- The part with lane n's requests taken out of the queue alone. -/
def State.withoutWaiting (s : State) (n : LaneId) : State :=
  { s with survey := { s.survey with queue := s.survey.queue.filter fun r => r.lane != n } }

theorem State.dropRequest_waiting (other : ∀ d, s.survey.dwell = some d → d.lane ≠ n) : s.dropRequest n = s.withoutWaiting n := by
  cases hd : s.survey.dwell with
  | none => simp only [State.dropRequest, hd, State.withoutWaiting]
  | some d => simp [State.dropRequest, hd, State.withoutWaiting, other d hd]

theorem State.dropRequest_running {d : Dwell} (running : s.survey.dwell = some d) (own : d.lane = n) :
    s.dropRequest n = (s.withoutWaiting n).clearDwell := by
  simp [State.dropRequest, running, State.withoutWaiting, own]

/-- The withdrawal of a survey request, by where the request is (R78). -/
theorem State.withdrawRequest_withdraws (s : State) (n : LaneId) : Withdraws s n (s.withdrawRequest n) := by
  rintro rest rfl
  refine ⟨fun without => ?_, fun waits other => ?_, fun d running own => ?_⟩
  · rw [State.withdrawRequest, if_neg (mt (s.hasRequest_iff n).1 without)]
  · rw [State.withdrawRequest, if_pos ((s.hasRequest_iff n).2 waits), State.dropRequest_waiting other]
    exact State.surveySettle_acts _
  · have pending : n ∈ s.surveyed := (s.mem_surveyed n).2 (.inr ⟨d, running, own⟩)
    rw [State.withdrawRequest, if_pos ((s.hasRequest_iff n).2 pending), State.dropRequest_running running own]
    exact (State.surveySettle_acts _).1 rfl

/-- Settles O20: the mode loss, the hold limit on a used and on an excused report, and what a withdrawal is. -/
theorem modeLossEntersSeek : Obligations.ModeLossEntersSeek := by
  refine ⟨fun s n p c e period signal error frame hits phase taken noPlan known usable outside reached => ?_,
    fun s n p period signal error frame fade noPlan limit => ⟨fun u used short => used.gives_seek fade noPlan limit rfl short,
      fun excused => excused.gives_seek fade noPlan limit⟩,
    fun s n => ⟨s.hasRequest_iff n, s.withdrawRequest_withdraws n⟩⟩
  have recognised : (s.lane n).phase.recognised = true := by
    rcases phase with phase | phase | phase <;> rw [phase] <;> rfl
  exact taken.gives_seek recognised noPlan known usable outside reached

end

end Sys2Proof.Machine
end

section
namespace Sys2Proof.Machine

/-! PROOFS. Signal quality arithmetic (spec/03): the level function, the samples, the accumulator, then the invariant of the quality figures and
the end of a dwell. -/

/-! ### The level function (R33) -/

/-- L(x) by the highest set bit of x. -/
theorem level_eq {x p : Nat} (low : 2 ^ p ≤ x) (high : x < 2 ^ (p + 1)) :
    level x = if 3 ≤ p then 8 * p + (x / 2 ^ (p - 3) - 8) else 8 * p + (x * 2 ^ (3 - p) - 8) := by
  have positive : x ≠ 0 := (Nat.two_pow_pos p |>.trans_le low).ne'
  have bit : Nat.log2 x = p := (Nat.log2_eq_iff positive).2 ⟨low, high⟩
  simp only [level, bit]

/-- A number with highest set bit p, scaled so that this bit stands at place 3, lies in 8..15. -/
theorem scaled_bounds {x p : Nat} (low : 2 ^ p ≤ x) (high : x < 2 ^ (p + 1)) :
    (3 ≤ p → 8 ≤ x / 2 ^ (p - 3) ∧ x / 2 ^ (p - 3) ≤ 15) ∧ (p < 3 → 8 ≤ x * 2 ^ (3 - p) ∧ x * 2 ^ (3 - p) ≤ 15) := by
  refine ⟨fun large => ?_, fun small => ?_⟩
  · obtain ⟨q, rfl⟩ := Nat.exists_eq_add_of_le large
    rw [pow_succ, pow_add] at high
    rw [pow_add] at low
    have top : x / 2 ^ q < 16 := (Nat.div_lt_iff_lt_mul (Nat.two_pow_pos q)).2 (by omega)
    rw [Nat.add_sub_cancel_left, Nat.le_div_iff_mul_le (Nat.two_pow_pos q)]
    omega
  · interval_cases p <;> omega

/-- The eight levels of one highest set bit. -/
theorem level_bounds {x p : Nat} (low : 2 ^ p ≤ x) (high : x < 2 ^ (p + 1)) : 8 * p ≤ level x ∧ level x ≤ 8 * p + 7 := by
  obtain ⟨large, small⟩ := scaled_bounds low high
  rw [level_eq low high]
  split <;> omega

/-- Every power lies between a power of two and the next, at most the sixteenth. -/
theorem exists_highest_bit {x : Nat} (positive : 1 ≤ x) (word : x ≤ 65535) : ∃ p ≤ 15, 2 ^ p ≤ x ∧ x < 2 ^ (p + 1) := by
  have nonzero : x ≠ 0 := Nat.one_le_iff_ne_zero.1 positive
  have below : Nat.log2 x < 16 := (Nat.log2_lt nonzero).2 (by omega)
  exact ⟨Nat.log2 x, by omega, Nat.log2_self_le nonzero, Nat.lt_log2_self⟩

theorem level_le {x : Nat} (positive : 1 ≤ x) (word : x ≤ 65535) : level x ≤ 127 := by
  obtain ⟨p, short, low, high⟩ := exists_highest_bit positive word
  have := (level_bounds low high).2
  omega

/-- L is non-decreasing: by the highest set bits where they differ, by the scaled value where they agree. -/
theorem level_mono {x y : Nat} (positive : 1 ≤ x) (le : x ≤ y) (word : y ≤ 65535) : level x ≤ level y := by
  obtain ⟨p, -, lowX, highX⟩ := exists_highest_bit positive (le.trans word)
  obtain ⟨q, -, lowY, highY⟩ := exists_highest_bit (positive.trans le) word
  have ordered : p < q + 1 := (Nat.pow_lt_pow_iff_right (by omega)).1 ((lowX.trans le).trans_lt highY)
  rcases Nat.lt_succ_iff_lt_or_eq.1 ordered with fewer | rfl
  · have := (level_bounds lowX highX).2
    have := (level_bounds lowY highY).1
    omega
  · rw [level_eq lowX highX, level_eq lowY highY]
    split
    · exact Nat.add_le_add_left (Nat.sub_le_sub_right (Nat.div_le_div_right le) 8) _
    · exact Nat.add_le_add_left (Nat.sub_le_sub_right (Nat.mul_le_mul_right _ le) 8) _

/-- Settles O12: `level_eq`, `level_le`, `level_mono`. -/
theorem levelFunction : Obligations.LevelFunction :=
  ⟨fun _ _ positive word low high => ⟨level_eq low high, level_le positive word⟩, fun _ _ => level_mono⟩

/-! ### Raw and trimmed samples (R34, R35) -/

theorem level_word_le {power : BitVec 16} (nonzero : power ≠ 0) : level power.toNat ≤ 127 := by
  have positive : power.toNat ≠ 0 := fun zero => nonzero (BitVec.eq_of_toNat_eq zero)
  have := power.isLt
  exact level_le (by omega) (by omega)

theorem rawSample_no_signal (error : BitVec 16) : rawSample 0 error = 0 := if_pos rfl

theorem rawSample_no_error {signal : BitVec 16} (signals : signal ≠ 0) : rawSample signal 0 = 127 := by
  rw [rawSample, if_neg signals, if_pos rfl]

theorem rawSample_both {signal error : BitVec 16} (signals : signal ≠ 0) (errs : error ≠ 0) :
    rawSample signal error = level signal.toNat - level error.toNat := by
  rw [rawSample, if_neg signals, if_neg errs]

theorem rawSample_le (signal error : BitVec 16) : rawSample signal error ≤ 127 := by
  by_cases signals : signal = 0
  · rw [signals, rawSample_no_signal]
    omega
  by_cases errs : error = 0
  · rw [errs, rawSample_no_error signals]
  · rw [rawSample_both signals errs]
    exact (Nat.sub_le _ _).trans (level_word_le signals)

/-- Settles O13, by which of S and E is 0 (`rawSample` itself is the model's function). -/
theorem rawSample_cases : Obligations.RawSample := by
  refine fun signal error => ⟨fun none => ?_, fun signals none => ?_, fun signals errs le => ?_, fun signals errs lt => ?_,
    rawSample_le signal error⟩
  · rw [none, rawSample_no_signal]
  · rw [none, rawSample_no_error signals]
  · rw [rawSample_both signals errs, Nat.sub_add_cancel le]
  · rw [rawSample_both signals errs, Nat.sub_eq_zero_of_le lt.le]

theorem trimmedSample_eq (raw : Nat) (trim : Int) : (trimmedSample raw trim : Int) = max 0 (min 127 (raw + trim)) := by
  unfold trimmedSample clamp
  split
  · omega
  · split <;> omega

/-! ### The accumulator (R41 to R43) -/

theorem accumulate_up {qacc sample : Nat} (k : Nat) (below : qacc ≤ 256 * sample) :
    accumulate qacc sample k = qacc + (256 * sample - qacc) / 2 ^ k := by
  have gap : (256 * (sample : Int) - qacc) = ((256 * sample - qacc : Nat) : Int) := by omega
  have step : Int.tdiv ((256 * sample - qacc : Nat) : Int) (2 ^ k) = ((256 * sample - qacc) / 2 ^ k : Nat) := by
    exact_mod_cast (Int.ofNat_tdiv (256 * sample - qacc) (2 ^ k)).symm
  simp only [accumulate, gap, step]
  exact Int.toNat_natCast _

theorem accumulate_down {qacc sample : Nat} (k : Nat) (above : 256 * sample ≤ qacc) :
    accumulate qacc sample k = qacc - (qacc - 256 * sample) / 2 ^ k := by
  have gap : (256 * (sample : Int) - qacc) = -((qacc - 256 * sample : Nat) : Int) := by omega
  have step : Int.tdiv ((qacc - 256 * sample : Nat) : Int) (2 ^ k) = ((qacc - 256 * sample) / 2 ^ k : Nat) := by
    exact_mod_cast (Int.ofNat_tdiv (qacc - 256 * sample) (2 ^ k)).symm
  simp only [accumulate, gap, Int.neg_tdiv, step]
  generalize (qacc - 256 * sample) / 2 ^ k = moved
  omega

/-- An update ends between where it began and where it leads, so it leaves no range that holds both (R42). -/
theorem accumulate_le {qacc sample : Nat} (k : Nat) (qaccIn : qacc ≤ 32512) (sampleIn : sample ≤ 127) :
    accumulate qacc sample k ≤ 32512 := by
  rcases Nat.le_total qacc (256 * sample) with below | above
  · rw [accumulate_up k below]
    have := Nat.div_le_self (256 * sample - qacc) (2 ^ k)
    omega
  · rw [accumulate_down k above]
    exact (Nat.sub_le _ _).trans qaccIn

/-- An accumulator stalls only short of one step from 256 × s (R43). -/
theorem accumulate_stalls {qacc sample k : Nat} (stalls : accumulate qacc sample k = qacc) :
    qacc < 256 * sample + 2 ^ k ∧ 256 * sample < qacc + 2 ^ k := by
  have positive := Nat.two_pow_pos k
  rcases Nat.le_total qacc (256 * sample) with below | above
  · rw [accumulate_up k below, Nat.add_eq_left, Nat.div_eq_zero_iff_lt positive] at stalls
    omega
  · rw [accumulate_down k above] at stalls
    have step := Nat.div_le_self (qacc - 256 * sample) (2 ^ k)
    have none : (qacc - 256 * sample) / 2 ^ k = 0 := by omega
    rw [Nat.div_eq_zero_iff_lt positive] at none
    omega

/-- A seeded accumulator within 64 of 256 × s reads s (R43). -/
theorem QualityTracker.qi_near {t : QualityTracker} {sample : Nat} (seeded : t.seeded = true) (high : t.qacc < 256 * sample + 64)
    (low : 256 * sample < t.qacc + 64) : t.qi = sample := by
  rw [QualityTracker.qi, if_pos seeded]
  omega

theorem QualityTracker.take_unseeded {t : QualityTracker} (fresh : t.seeded = false) (raw sample k : Nat) :
    t.take raw sample k = { t with seeded := true, qacc := 256 * sample, lastRaw := raw } := by
  simp [QualityTracker.take, fresh]

theorem QualityTracker.take_seeded {t : QualityTracker} (seeded : t.seeded = true) (raw sample k : Nat) :
    t.take raw sample k = { t with qacc := accumulate t.qacc sample k, lastRaw := raw } := by
  simp [QualityTracker.take, seeded]

/-- Settles O14: the step up and down, the stall, the trimmed sample, the first and a later used sample. -/
theorem accumulatorMovesAndRests : Obligations.AccumulatorMovesAndRests := by
  refine ⟨fun qacc sample k _ _ _ _ => ⟨accumulate_up k, accumulate_down k⟩, fun t sample k seeded _ small _ _ stalls => ?_,
    fun raw trim => ?_, fun t raw sample k => ⟨fun fresh => QualityTracker.take_unseeded fresh raw sample k,
      fun seeded => QualityTracker.take_seeded seeded raw sample k⟩⟩
  · obtain ⟨high, low⟩ := accumulate_stalls stalls
    have step : 2 ^ k ≤ 2 ^ 6 := Nat.pow_le_pow_right (by omega) small
    exact ⟨QualityTracker.qi_near seeded (by omega) (by omega), high, low⟩
  · have := trimmedSample_eq raw trim
    omega

end Sys2Proof.Machine
end

section
namespace Sys2Proof.Machine

/-! ### The quality figures of a lane (R32, R42, R75) -/

/-- The part of `QualityInRange` that is about one lane. -/
structure Lane.FiguresInRange (l : Lane) : Prop where
  qacc : l.tracker.qacc ≤ 32512
  raw : l.tracker.lastRaw ≤ 127
  hits : l.tracker.hits ≤ 255
  order : ∀ m, l.switchOrder = some m → m ≤ 127

/-- An accumulator in its range reads at most 127 (R42, R43). -/
theorem QualityTracker.qi_le {t : QualityTracker} (qacc : t.qacc ≤ 32512) : t.qi ≤ 127 := by
  unfold QualityTracker.qi
  split <;> omega

/-- A used sample leaves Qacc in its range, seeded or not (R40 to R42). -/
theorem QualityTracker.take_qacc_le {t : QualityTracker} {sample : Nat} (qacc : t.qacc ≤ 32512) (inRange : sample ≤ 127) (raw k : Nat) :
    (t.take raw sample k).qacc ≤ 32512 := by
  cases seeded : t.seeded
  · rw [QualityTracker.take_unseeded seeded]
    exact show 256 * sample ≤ 32512 by omega
  · rw [QualityTracker.take_seeded seeded]
    exact accumulate_le k qacc inRange

/-- The blanking verdict keeps a consecutive-hit count in 8 bits (R36). -/
theorem blanking_hits_le (hit : Bool) (hits limit : Nat) : (blanking hit hits limit).2 ≤ 255 := by
  rcases blanking_cases hit hits limit with ⟨-, same⟩ | ⟨-, -, same⟩ | ⟨-, -, same⟩ <;> rw [same] <;> simp

section
variable {l l' : Lane} {p : TunePlan}

theorem Lane.FiguresInRange.congr (h : l.FiguresInRange) (tracker : l'.tracker = l.tracker) (order : l'.switchOrder = l.switchOrder) :
    l'.FiguresInRange :=
  ⟨tracker ▸ h.qacc, tracker ▸ h.raw, tracker ▸ h.hits, order ▸ h.order⟩

/-- A lane whose tracker is cleared and that holds no switch order: in SEEK, in OFF, at reset (R45, R54, R67). -/
theorem Lane.FiguresInRange.of_cleared (tracker : l.tracker = .cleared) (order : l.switchOrder = none) : l.FiguresInRange := by
  refine ⟨?_, ?_, ?_, fun m waits => ?_⟩
  · rw [tracker]
    exact Nat.zero_le _
  · rw [tracker]
    exact Nat.zero_le _
  · rw [tracker]
    exact Nat.zero_le _
  · rw [order] at waits
    cases waits

theorem Lane.FiguresInRange.enterTrack (h : l.FiguresInRange) (now : Time) : (l.enterTrack now).FiguresInRange :=
  ⟨Nat.zero_le _, h.raw, h.hits, h.order⟩

/-- A parameter update keeps a switch order or drops it (R66, R92). -/
theorem Lane.FiguresInRange.update (h : l.FiguresInRange) (p : TunePlan) (now : Time) : (l.update p now).FiguresInRange := by
  refine ⟨h.qacc, h.raw, h.hits, fun m waits => ?_⟩
  simp only [Lane.update] at waits
  split at waits
  · exact h.order m waits
  · cases waits

/-- A switch reseeds Qacc with 256 × a mean in range (R90). -/
theorem Lane.FiguresInRange.switchMast {mean : Nat} (h : l.FiguresInRange) (waits : l.switchOrder = some mean) (p : TunePlan) (now : Time) :
    (l.switchMast mean p now).FiguresInRange := by
  have inRange := h.order mean waits
  exact ⟨show 256 * mean ≤ 32512 by omega, h.raw, Nat.zero_le _, nofun⟩

/-- Step one of a report moves b (R36). -/
theorem Lane.FiguresInRange.hearHit (h : l.FiguresInRange) (p : TunePlan) : (l.hearHit p).1.FiguresInRange :=
  ⟨h.qacc, h.raw, blanking_hits_le _ _ _, h.order⟩

/-- Step two moves the recognizer alone (R22 to R29). -/
theorem Lane.FiguresInRange.recognize (h : l.FiguresInRange) (modes : ModeTable) (p : TunePlan) (excused : Bool) (period : Nat) :
    (l.recognize modes p excused period).1.FiguresInRange := by
  obtain ⟨rec, event, same, -⟩ := l.recognize_cases modes p excused period
  rw [same]
  exact h.congr rfl rfl

/-- Step three seeds Qacc with 256 × s or moves it towards 256 × s, with s in range (R35, R40, R41). -/
theorem Lane.FiguresInRange.sample (h : l.FiguresInRange) (station : StationSettings) (p : TunePlan) (signal error : BitVec 16) :
    (l.sample station p signal error).FiguresInRange :=
  ⟨QualityTracker.take_qacc_le h.qacc (trimmedSample_le _ _) _ _, rawSample_le signal error, h.hits, h.order⟩

theorem Lane.FiguresInRange.hear (h : l.FiguresInRange) (station : StationSettings) (p : TunePlan) (r : SymbolReport) :
    (l.hear station p r).1.FiguresInRange := by
  have decided := (h.hearHit p).recognize station.modes p (l.hearHit p).2 r.period
  unfold Lane.hear
  simp only
  split
  · exact decided.sample station p r.signal r.error
  · exact decided

end

/-! ### The quality figures of the Survey Unit (R47, R73) -/

/-- The part of `QualityInRange` that is about a dwell. -/
structure Dwell.FiguresInRange (d : Dwell) : Prop where
  sum : d.sum ≤ 127 * d.count
  hits : d.hits ≤ 255

/-- The part of `QualityInRange` that is about the Survey Unit. -/
structure SurveyUnit.FiguresInRange (u : SurveyUnit) : Prop where
  means : ∀ (n : LaneId) (m : Nat), u.lastMean[n] = some m → m ≤ 127
  dwell : ∀ d, u.dwell = some d → d.FiguresInRange

/-- A sampled report adds at most one sample of at most 127 (R35, R46). -/
theorem Dwell.FiguresInRange.sample {d : Dwell} (h : d.FiguresInRange) (hit : Bool) (limit raw : Nat) (trim : Int) :
    (d.sample hit limit raw trim).FiguresInRange := by
  have trimmed := trimmedSample_le raw trim
  have sum := h.sum
  unfold Dwell.sample
  simp only
  split
  · exact ⟨sum, blanking_hits_le _ _ _⟩
  · exact ⟨show d.sum + trimmedSample raw trim ≤ 127 * (d.count + 1) by omega, blanking_hits_le _ _ _⟩

/-- A survey mean is at most 127 (R47). -/
theorem Dwell.FiguresInRange.result_le {d : Dwell} (h : d.FiguresInRange) {mean : Nat} (result : d.result = some mean) : mean ≤ 127 := by
  unfold Dwell.result at result
  split at result
  · cases result
  · rename_i some
    cases result
    exact (Nat.div_le_iff_le_mul_add_pred (Nat.pos_of_ne_zero some)).2 (by have := h.sum; rw [Nat.mul_comm]; omega)

theorem SurveyUnit.FiguresInRange.congr {u v : SurveyUnit} (h : u.FiguresInRange) (means : v.lastMean = u.lastMean) (dwell : v.dwell = u.dwell) :
    v.FiguresInRange :=
  ⟨means ▸ h.means, dwell ▸ h.dwell⟩

/-- With no dwell running only the last survey means matter. -/
theorem SurveyUnit.FiguresInRange.of_idle {u v : SurveyUnit} (h : u.FiguresInRange) (means : v.lastMean = u.lastMean) (idle : v.dwell = none) :
    v.FiguresInRange :=
  ⟨means ▸ h.means, fun d running => by rw [idle] at running; cases running⟩

/-- A last survey mean is replaced by none or by one in range. -/
theorem SurveyUnit.FiguresInRange.setMean {u : SurveyUnit} (h : u.FiguresInRange) (n : LaneId) {mean : Option Nat}
    (inRange : ∀ m, mean = some m → m ≤ 127) : SurveyUnit.FiguresInRange { u with lastMean := u.lastMean.set n mean } := by
  refine ⟨fun m value held => ?_, h.dwell⟩
  simp only [Fin.getElem_fin, Vector.getElem_set] at held
  split at held
  · exact inRange value held
  · exact h.means m value held

/-! ### The quality figures of the part -/

theorem qualityInRange_iff {s : State} : QualityInRange s ↔ (∀ n, (s.lane n).FiguresInRange) ∧ s.survey.FiguresInRange := by
  refine ⟨fun ⟨lanes, dwell⟩ => ⟨fun n => ?_, fun n => ?_, fun d running => ?_⟩,
    fun ⟨lanes, survey⟩ => ⟨fun n => ?_, fun d running => ?_⟩⟩
  · obtain ⟨qacc, raw, hits, order, -⟩ := lanes n
    exact ⟨qacc, raw, hits, order⟩
  · obtain ⟨-, -, -, -, mean⟩ := lanes n
    exact mean
  · obtain ⟨sum, hits⟩ := dwell d running
    exact ⟨sum, hits⟩
  · exact ⟨(lanes n).qacc, (lanes n).raw, (lanes n).hits, (lanes n).order, survey.means n⟩
  · exact ⟨(survey.dwell d running).sum, (survey.dwell d running).hits⟩

section
variable {s t : State} {n : LaneId} {l : Lane} {p : TunePlan}

theorem QualityInRange.lane (h : QualityInRange s) (n : LaneId) : (s.lane n).FiguresInRange := (qualityInRange_iff.1 h).1 n

theorem QualityInRange.survey (h : QualityInRange s) : s.survey.FiguresInRange := (qualityInRange_iff.1 h).2

theorem QualityInRange.of_parts (h : QualityInRange s) (lanes : t.lanes = s.lanes) (survey : t.survey = s.survey) : QualityInRange t :=
  qualityInRange_iff.2 ⟨fun n => State.lane_congr lanes n ▸ h.lane n, survey ▸ h.survey⟩

theorem QualityInRange.congr (same : t.reception = s.reception) (h : QualityInRange s) : QualityInRange t := by
  obtain ⟨-, -, lanes, survey, -⟩ := State.reception_eq_iff.1 same
  exact h.of_parts lanes survey

theorem QualityInRange.settle (h : QualityInRange s) : QualityInRange s.settle := h.congr s.settle_reception

/-- An entry or a switch ends with the lane's record asked for and, under a flag, LANE raised. -/
theorem QualityInRange.told (h : QualityInRange s) (n : LaneId) (b : Bool) : QualityInRange ((s.oweLane n).raiseIf b .lane) :=
  h.congr (by simp)

theorem QualityInRange.setLane (h : QualityInRange s) (inRange : l.FiguresInRange) : QualityInRange (s.setLane n l) := by
  refine qualityInRange_iff.2 ⟨fun m => ?_, h.survey⟩
  rw [State.setLane_lane]
  split
  · exact inRange
  · exact h.lane m

theorem QualityInRange.modLane {f : Lane → Lane} (h : QualityInRange s) (inRange : ∀ l : Lane, l.FiguresInRange → (f l).FiguresInRange) :
    QualityInRange (s.modLane n f) :=
  h.setLane (inRange _ (h.lane n))

theorem QualityInRange.setSurvey (h : QualityInRange s) (lanes : t.lanes = s.lanes) (survey : t.survey.FiguresInRange) : QualityInRange t :=
  qualityInRange_iff.2 ⟨fun n => State.lane_congr lanes n ▸ h.lane n, survey⟩

/-- A change of a lane that touches neither its tracker nor its switch order. -/
theorem QualityInRange.modLane_apart (h : QualityInRange s) (n : LaneId) (f : Lane → Lane) (tracker : ∀ l, (f l).tracker = l.tracker)
    (order : ∀ l, (f l).switchOrder = l.switchOrder) : QualityInRange (s.modLane n f) :=
  h.modLane fun l inRange => inRange.congr (tracker l) (order l)

/-! #### The Survey Unit's operations (R76 to R82, R86) -/

theorem QualityInRange.preempt (h : QualityInRange s) : QualityInRange s.preempt := by
  unfold State.preempt
  split
  · exact h
  · split
    · exact h.setSurvey rfl (h.survey.of_idle rfl rfl)
    · exact h

/-- A dwell starts with its sum, its count and its hits at 0 (R82). -/
theorem QualityInRange.startDwell (h : QualityInRange s) (r : SurveyRequest) : QualityInRange (s.startDwell r) := by
  rcases s.startDwell_cases r with ⟨-, same⟩ | ⟨p, mast, -, -, started⟩
  · rw [same]
    exact h
  · rw [started]
    refine h.setSurvey rfl ⟨h.survey.means, fun d running => ?_⟩
    cases running
    exact ⟨Nat.zero_le _, Nat.zero_le _⟩

theorem QualityInRange.chooseSurvey (h : QualityInRange s) : QualityInRange s.chooseSurvey := by
  unfold State.chooseSurvey
  split
  · exact h
  · split
    · exact h
    · exact h.startDwell _

theorem QualityInRange.surveySettle (h : QualityInRange s) : QualityInRange s.surveySettle := h.preempt.chooseSurvey

theorem QualityInRange.fileRequest (h : QualityInRange s) (cls : SurveyClass) : QualityInRange (s.fileRequest n cls) :=
  QualityInRange.surveySettle (h.setSurvey rfl (h.survey.congr rfl rfl))

/-- An upgrade touches the class of a dwell alone (R77). -/
theorem Dwell.FiguresInRange.upgrade {d : Dwell} (h : d.FiguresInRange) (n : LaneId) : (d.upgrade n).FiguresInRange := by
  unfold Dwell.upgrade
  split
  · exact ⟨h.sum, h.hits⟩
  · exact h

theorem QualityInRange.fadeRequest (h : QualityInRange s) : QualityInRange (s.fadeRequest n) := by
  rw [State.fadeRequest_eq]
  split
  · refine QualityInRange.surveySettle (h.setSurvey rfl ⟨h.survey.means, fun d running => ?_⟩)
    obtain ⟨e, before, rfl⟩ := Option.map_eq_some_iff.1 running
    exact (h.survey.dwell e before).upgrade n
  · exact h.fileRequest .fade

theorem QualityInRange.dropRequest (h : QualityInRange s) : QualityInRange (s.dropRequest n) := by
  unfold State.dropRequest
  simp only
  split
  · exact h.setSurvey rfl (h.survey.congr rfl rfl)
  · split
    · exact h.setSurvey rfl (h.survey.of_idle rfl rfl)
    · exact h.setSurvey rfl (h.survey.congr rfl rfl)

theorem QualityInRange.withdrawRequest (h : QualityInRange s) : QualityInRange (s.withdrawRequest n) := by
  unfold State.withdrawRequest
  split
  · exact h.dropRequest.surveySettle
  · exact h

/-! #### Entries and takes (R54 to R60, R66, R67, R108) -/

theorem QualityInRange.enterSeek (h : QualityInRange s) : QualityInRange (s.enterSeek n p) :=
  (h.modLane (f := fun l => l.enterSeek p s.time) fun _ _ => .of_cleared rfl rfl).withdrawRequest.told n _

theorem QualityInRange.enterTrack (h : QualityInRange s) : QualityInRange (s.enterTrack n p) :=
  (h.modLane (f := fun l => l.enterTrack s.time) fun _ inRange => inRange.enterTrack s.time).told n _

theorem QualityInRange.enterLock (h : QualityInRange s) : QualityInRange (s.enterLock n p) :=
  (h.modLane_apart n (fun l => l.enterLock p s.time) (fun _ => rfl) fun _ => rfl).told n _

theorem QualityInRange.recoverLock (h : QualityInRange s) : QualityInRange (s.recoverLock n p) :=
  (h.modLane_apart n (fun l => l.recover s.time) (fun _ => rfl) fun _ => rfl).told n _

theorem QualityInRange.enterFade (h : QualityInRange s) : QualityInRange (s.enterFade n p) := by
  have faded : QualityInRange (s.modLane n fun l => l.enterFade s.time) :=
    h.modLane_apart n _ (fun _ => rfl) fun _ => rfl
  unfold State.enterFade
  simp only
  split
  · exact faded.fadeRequest.told n _
  · exact faded.told n _

theorem QualityInRange.applyStop (h : QualityInRange s) (notify : NotifyFlags) : QualityInRange (s.applyStop n notify) := by
  have withdrawn : QualityInRange ((s.modLane n fun l => { l.enterOff s.time with counters := .zero }).withdrawRequest n) :=
    (h.modLane fun _ _ => .of_cleared rfl rfl).withdrawRequest
  exact QualityInRange.congr (State.raiseIf_reception _ _ _) (withdrawn.setSurvey rfl (withdrawn.survey.setMean n nofun))

theorem QualityInRange.applyRetune (h : QualityInRange s) : QualityInRange (s.applyRetune n p) :=
  (h.modLane_apart n (fun l => { l with applied := some p, activeMast := p.mastPolicy.start }) (fun _ => rfl) fun _ => rfl).enterSeek

theorem QualityInRange.applyUpdate (h : QualityInRange s) : QualityInRange (s.applyUpdate n p) := by
  have updated : QualityInRange (s.modLane n fun l => l.update p s.time) := h.modLane fun _ inRange => inRange.update p s.time
  unfold State.applyUpdate
  simp only
  split
  · exact updated
  · exact updated.withdrawRequest

theorem QualityInRange.finishTake (h : QualityInRange s) (tag : Tag) (adjusted : BitVec 16) : QualityInRange (s.finishTake n tag adjusted) :=
  QualityInRange.congr rfl (h.modLane_apart n (·.taken tag) (fun _ => rfl) fun _ => rfl)

theorem QualityInRange.takePlan (h : QualityInRange s) (plan : AcceptedPlan) : QualityInRange (s.takePlan n plan) := by
  cases plan with
  | stop tag notify => exact (h.applyStop notify).finishTake tag 0
  | tune tag p adjusted =>
    refine QualityInRange.finishTake ?_ tag adjusted
    rcases s.applyTune_cases n p with same | ⟨-, -, -, same⟩ <;> rw [same]
    · exact h.applyRetune
    · exact h.applyUpdate

theorem QualityInRange.takePending (h : QualityInRange s) : QualityInRange (s.takePending n) := by
  unfold State.takePending
  split
  · exact h
  · exact h.takePlan _

theorem QualityInRange.leaveForSeek (h : QualityInRange s) : QualityInRange (s.leaveForSeek n p) := h.enterSeek.takePending

/-! #### The symbol report (R53, R90) -/

theorem QualityInRange.actTrack (h : QualityInRange s) (used : Bool) : QualityInRange (s.actTrack n p used) := by
  have counted (run : Nat) : QualityInRange (s.modLane n fun l => { l with lockIn := run }) :=
    h.modLane_apart n _ (fun _ => rfl) fun _ => rfl
  unfold State.actTrack
  split
  · simp only
    split
    · exact (counted _).enterLock
    · exact counted _
  · exact h

theorem QualityInRange.actLock (h : QualityInRange s) (used : Bool) : QualityInRange (s.actLock n p used) := by
  have counted (run : Nat) : QualityInRange (s.modLane n fun l => { l with fadeRun := run }) :=
    h.modLane_apart n _ (fun _ => rfl) fun _ => rfl
  unfold State.actLock
  split
  · simp only
    split
    · exact (counted _).enterFade
    · exact counted _
  · exact h

theorem QualityInRange.actFade (h : QualityInRange s) (used : Bool) : QualityInRange (s.actFade n p used) := by
  have counted (run : Nat) : QualityInRange (s.modLane n fun l => { l with recoverRun := run, hold := l.hold + 1 }) :=
    h.modLane_apart n _ (fun _ => rfl) fun _ => rfl
  unfold State.actFade
  simp only
  generalize (if used = true then nextRun _ _ else (s.lane n).recoverRun) = run
  split
  · exact (counted run).recoverLock
  · split
    · exact (counted run).leaveForSeek
    · exact counted run

theorem QualityInRange.actOnReport (h : QualityInRange s) (v : ReportVerdict) : QualityInRange (s.actOnReport n p v) := by
  unfold State.actOnReport
  split
  · exact h.enterTrack
  · exact h.leaveForSeek
  · split
    · exact h
    · exact h
    · exact h.actTrack v.used
    · exact h.actLock v.used
    · exact h.actFade v.used

theorem QualityInRange.switchAtSymbolEnd (h : QualityInRange s) : QualityInRange (s.switchAtSymbolEnd n) := by
  unfold State.switchAtSymbolEnd
  simp only
  split
  · rename_i mean p waits _
    split
    · exact (h.setLane ((h.lane n).switchMast waits p s.time)).surveySettle.told n _
    · exact h
  · exact h

theorem QualityInRange.takeReport (h : QualityInRange s) (r : SymbolReport) : QualityInRange (s.takeReport n p r) := by
  have acted := (h.setLane (n := n) ((h.lane n).hear s.station p r)).actOnReport (n := n) (p := p) ((s.lane n).hear s.station p r).2
  unfold State.takeReport State.frameStartApply
  refine QualityInRange.switchAtSymbolEnd ?_
  split
  · exact acted.takePending
  · exact acted

/-! #### The survey report (R46, R47, R83 to R89) -/

/-- A dwell that goes on, with its tap's mark cleared. -/
theorem QualityInRange.setDwell (h : QualityInRange s) {e : Dwell} (inRange : e.FiguresInRange) (tap : Tap) :
    QualityInRange { s with survey := { s.survey with tap := tap, dwell := some e } } :=
  h.setSurvey rfl ⟨h.survey.means, fun d running => by cases running; exact inRange⟩

/-- What a dwell's end decides is its mean or nothing (R88). -/
theorem switchDecision_eq (l : Lane) (p : TunePlan) (result : Option Nat) :
    switchDecision l p result = result.filter fun mean => decide (switchRequirement l.phase l.tracker.qi p.margin ≤ mean) := by
  cases result with
  | none => rfl
  | some mean => simp only [switchDecision, Option.filter_some, decide_eq_true_eq]

theorem QualityInRange.endDwell (h : QualityInRange s) {d : Dwell} (inRange : d.FiguresInRange) (p : TunePlan) :
    QualityInRange (s.endDwell d p) := by
  have decided : QualityInRange (s.modLane d.lane fun l => { l with
      switchOrder := match switchDecision (s.lane d.lane) p d.result with
        | none => l.switchOrder
        | some mean => some mean
      surveyTimer := some (deadline s.time (p.surveyInterval * Config.oneSecond)) }) := by
    refine h.modLane fun l before => ⟨before.qacc, before.raw, before.hits, fun m waits => ?_⟩
    simp only at waits
    split at waits
    · exact before.order m waits
    · rename_i mean order
      cases waits
      rw [switchDecision_eq, Option.filter_eq_some_iff] at order
      exact inRange.result_le order.1
  refine QualityInRange.surveySettle (decided.setSurvey rfl ?_)
  exact (decided.survey.setMean d.lane fun m => inRange.result_le).of_idle rfl rfl

theorem QualityInRange.takeSurveyReport (h : QualityInRange s) {d : Dwell} (running : s.survey.dwell = some d) (p : TunePlan)
    (signal error : BitVec 16) : QualityInRange (s.takeSurveyReport d p signal error) := by
  have before := h.survey.dwell d running
  unfold State.takeSurveyReport
  simp only
  split
  · exact h.setDwell (e := { d with settling := d.settling + 1 }) ⟨before.sum, before.hits⟩ _
  · have sampled := before.sample s.survey.tap.hit p.blankLimit (rawSample signal error) (s.station.trim d.mast)
    split
    · exact (h.setDwell sampled _).endDwell sampled p
    · exact h.setDwell sampled _

/-! #### The other commands -/

theorem QualityInRange.impulse (h : QualityInRange s) (m : Mast) : QualityInRange (s.impulse m) := by
  refine qualityInRange_iff.2 ⟨fun n => ?_, h.survey.congr rfl rfl⟩
  rw [State.impulse_lane]
  exact (h.lane n).congr rfl rfl

theorem QualityInRange.offerToRouter (h : QualityInRange s) (q : Packet) : QualityInRange (s.offerToRouter n q) := by
  unfold State.offerToRouter
  split
  · exact (h.modLane_apart n (fun l => { l with firstAfterLock := false, counters := { l.counters with delivered := satInc l.counters.delivered } })
      (fun _ => rfl) fun _ => rfl).of_parts rfl rfl
  · exact (h.modLane_apart n (fun l => { l with counters := { l.counters with routerDrops := satInc l.counters.routerDrops } })
      (fun _ => rfl) fun _ => rfl).of_parts rfl rfl

theorem QualityInRange.examineSlot (h : QualityInRange s) (n : LaneId) (slot : Vector Byte 64) : QualityInRange (s.examineSlot n slot) := by
  unfold State.examineSlot
  simp only
  split
  · exact h
  split
  · exact h
  split
  · exact h
  split
  · exact h.congr (State.setAnswer_reception _ _ _)
  rename_i plan _
  have answered := h.congr (State.setAnswer_reception s n { s.answer n with lastAnswered := some (hostHalf slot).tag })
  unfold State.acceptPlan
  simp only
  split
  · exact (answered.modLane_apart n (fun l => { l with pendingPlan := some plan, applyWindow := some (deadline s.time Config.applyWindowLength) })
      (fun _ => rfl) fun _ => rfl).congr rfl
  · exact answered.takePlan plan

/-- With every lane's tracker cleared and the Survey Unit idle, only the last survey means matter. -/
theorem QualityInRange.of_all_cleared (lanes : ∀ n, (t.lane n).tracker = .cleared ∧ (t.lane n).switchOrder = none)
    (survey : t.survey.FiguresInRange) : QualityInRange t :=
  qualityInRange_iff.2 ⟨fun n => .of_cleared (lanes n).1 (lanes n).2, survey⟩

theorem QualityInRange.enterStopping (h : QualityInRange s) : QualityInRange s.enterStopping := by
  obtain ⟨-, -, lanes, survey⟩ := s.enterStopping_frame
  refine .of_all_cleared (fun n => ?_) ?_
  · rw [lanes]
    exact ⟨rfl, rfl⟩
  · rw [survey]
    exact h.survey.of_idle rfl rfl

theorem QualityInRange.of_reset_parts (lanes : t.lanes = State.reset.lanes) (survey : t.survey = State.reset.survey) : QualityInRange t := by
  refine .of_all_cleared (fun n => ?_) ?_
  · rw [State.lane_congr lanes, State.reset_lane]
    exact ⟨rfl, rfl⟩
  · rw [survey]
    exact ⟨fun n m mean => by simp [State.reset, SurveyUnit.reset] at mean, nofun⟩

/-! #### The commands of a lane and of the Survey Unit -/

theorem QualityInRange.execSymbolReport (h : QualityInRange s) (period : Fin 16384) (signal error : BitVec 16) (frame : Bool) :
    Answers QualityInRange (execSymbolReport n period signal error frame s) := by
  unfold Machine.execSymbolReport
  split
  · exact answers_next.2 h
  · exact answers_next.2 h
  · exact answers_next.2 (h.takeReport _).settle

theorem QualityInRange.execSurveyReport (h : QualityInRange s) (signal error : BitVec 16) :
    Answers QualityInRange (execSurveyReport signal error s) := by
  unfold Machine.execSurveyReport
  split
  · exact answers_next.2 h
  · rename_i d running
    split
    · exact answers_next.2 h
    · exact answers_next.2 (h.takeSurveyReport running _ signal error)

theorem QualityInRange.seekCycle (h : QualityInRange s) : QualityInRange (s.seekCycle n p) := by
  have toggled : QualityInRange (s.modLane n fun l => { l with
      counters := { l.counters with seekCycles := satInc l.counters.seekCycles }
      activeMast := if p.mastPolicy.isAuto then opposite l.activeMast else l.activeMast }) :=
    h.modLane_apart n _ (fun _ => rfl) fun _ => rfl
  exact toggled.enterSeek.congr (State.raiseIf_reception _ _ _)

theorem QualityInRange.execSeekTimerExpiry (h : QualityInRange s) : Answers QualityInRange (execSeekTimerExpiry n s) := by
  unfold Machine.execSeekTimerExpiry
  simp only
  split
  · split
    · exact answers_next.2 h.seekCycle.settle
    · exact answers_next.2 h.seekCycle.settle
    · exact answers_next.2 (h.setLane ((h.lane n).congr rfl rfl))
  · exact answers_next.2 h

theorem QualityInRange.execSurveyIntervalExpiry (h : QualityInRange s) : Answers QualityInRange (execSurveyIntervalExpiry n s) := by
  have stopped : QualityInRange (s.setLane n { s.lane n with surveyTimer := none }) := h.setLane ((h.lane n).congr rfl rfl)
  unfold Machine.execSurveyIntervalExpiry
  simp only
  split
  · generalize (LanePhase.delivers _ && _ && _) = files
    cases files
    · exact answers_next.2 stopped
    · exact answers_next.2 (stopped.fileRequest .lock)
  · exact answers_next.2 h

theorem QualityInRange.execApplyWindowExpiry (h : QualityInRange s) : Answers QualityInRange (execApplyWindowExpiry n s) := by
  have closed : QualityInRange (s.setLane n { s.lane n with applyWindow := none }) := h.setLane ((h.lane n).congr rfl rfl)
  unfold Machine.execApplyWindowExpiry
  simp only
  split
  · exact answers_next.2 closed.takePending.settle
  · exact answers_next.2 h

theorem QualityInRange.execPacketGate (h : QualityInRange s) (packet : Vector Byte 188) (m : Mast) (un : Bool) (cor : Fin 9) :
    Answers QualityInRange (execPacketGate n packet m un cor s) := by
  have counted (count : LaneCounters → LaneCounters) : QualityInRange (s.modLane n fun l => { l with counters := count l.counters }) :=
    h.modLane_apart n _ (fun _ => rfl) fun _ => rfl
  unfold Machine.execPacketGate
  split <;> rw [answers_next]
  · exact h
  · exact h
  · exact counted fun c => { c with preLockDiscards := satInc c.preLockDiscards }
  all_goals exact (counted (·.pass un cor)).offerToRouter _

/-! #### Completions (R95, R170, R171, R174) -/

theorem QualityInRange.execStationBlockReadComplete (h : QualityInRange s) (result : ReadResult 256) :
    Answers QualityInRange (execStationBlockReadComplete result s) := by
  unfold Machine.execStationBlockReadComplete
  split
  · exact answers_next.2 h
  rename_i t _
  split
  · have ended := h.congr (s.endRead_reception t (result == .error) .planFetcher)
    simp only
    split
    · exact answers_next.2 ended
    split
    · split
      · exact answers_next.2 (QualityInRange.settle (ended.of_parts rfl rfl))
      · rename_i block
        obtain ⟨-, lanes, survey⟩ := (s.endRead t (ReadResult.data block == .error) .planFetcher).finishLoad_frame block
        exact answers_next.2 (QualityInRange.settle (ended.of_parts lanes survey))
    · exact answers_next.2 ended.settle
  · exact answers_next.2 h

theorem QualityInRange.execLaneSlotReadComplete (h : QualityInRange s) (result : ReadResult 64) :
    Answers QualityInRange (execLaneSlotReadComplete result s) := by
  unfold Machine.execLaneSlotReadComplete
  split
  · exact answers_next.2 h
  rename_i t _
  split
  · have ended := h.congr (s.endRead_reception t (result == .error) .planFetcher)
    have dropped := ended.congr (State.dropItem_reception _)
    simp only
    split
    · exact answers_next.2 ended
    split
    · exact answers_next.2 dropped.settle
    · exact answers_next.2 (dropped.examineSlot _ _).settle
  · exact answers_next.2 h

theorem QualityInRange.execStatusRecordWriteComplete (h : QualityInRange s) (result : WriteResult) :
    Answers QualityInRange (execStatusRecordWriteComplete result s) := by
  unfold Machine.execStatusRecordWriteComplete
  split
  · exact answers_next.2 h
  rename_i t _
  split
  · have ended := h.congr (s.endWrite_reception t result .statusWriter)
    simp only
    split
    · exact answers_next.2 ended
    split
    · obtain ⟨-, lanes, survey⟩ := (s.endWrite t result .statusWriter).endStopping_frame
      exact answers_next.2 (QualityInRange.settle (ended.of_parts lanes survey))
    · exact answers_next.2 ended.settle
  · exact answers_next.2 h

/-! #### Every command -/

/-- Every command keeps the quality figures in range: those that leave the reception side alone, then each of the others. -/
theorem QualityInRange.exec (h : QualityInRange s) (c : Instr) : Answers QualityInRange (exec c s) := by
  cases moves : Instr.movesReception c
  · exact (exec_reception moves s).imp fun t same => h.congr same
  cases c
  case symbolReport => exact h.execSymbolReport _ _ _ _
  case surveyReport => exact h.execSurveyReport _ _
  case seekTimerExpiry => exact h.execSeekTimerExpiry
  case surveyIntervalExpiry => exact h.execSurveyIntervalExpiry
  case applyWindowExpiry => exact h.execApplyWindowExpiry
  case packetGate => exact h.execPacketGate _ _ _ _
  case stationBlockReadComplete => exact h.execStationBlockReadComplete _
  case laneSlotReadComplete => exact h.execLaneSlotReadComplete _
  case statusRecordWriteComplete => exact h.execStatusRecordWriteComplete _
  case impulseEvent m magnitude =>
    dsimp only [Machine.exec, execImpulseEvent]
    split
    · exact answers_next.2 (h.impulse m)
    · exact answers_next.2 h
  case runSet =>
    dsimp only [Machine.exec, execRunSet]
    split
    · exact answers_next.2 (QualityInRange.settle (h.of_parts rfl rfl))
    all_goals exact answers_next.2 (h.of_parts rfl rfl)
  case runClear =>
    have cleared : QualityInRange (s.setRun false) := h.of_parts rfl rfl
    dsimp only [Machine.exec, execRunClear]
    split
    · exact answers_next.2 cleared
    · exact answers_next.2 (cleared.of_parts rfl rfl)
    · exact answers_next.2 cleared.enterStopping.settle
    all_goals exact answers_next.2 (h.of_parts rfl rfl)
  case softReset => exact answers_next.2 (.of_reset_parts rfl rfl)
  case powerOnReset => exact answers_next.2 (.of_reset_parts rfl rfl)
  case stationTimerTick => exact answers_next.2 (h.of_parts rfl rfl)
  all_goals cases moves

theorem QualityInRange.step (h : QualityInRange s) : Answers QualityInRange (step s) := by
  unfold Machine.step
  split
  · exact answers_next.2 h
  · rename_i rest _
    have taken : QualityInRange { s with pending := rest } := h.of_parts rfl rfl
    exact taken.exec _

end

/-- Settles O15: `QualityInRange.step`, and QI by the range of Qacc. -/
theorem qualityKeptInRange : Obligations.QualityKeptInRange := by
  intro s t inRange stepped
  have kept := inRange.step t stepped
  exact ⟨kept, fun n => QualityTracker.qi_le (kept.lane n).qacc⟩

end Sys2Proof.Machine
end

section
namespace Sys2Proof.Machine

section
variable {s : State} {d : Dwell} {p : TunePlan}

/-! ### A sampled report and the decision (R46, R47, R88) -/

theorem Dwell.sample_of_taken {hit : Bool} {limit : Nat} (taken : hit = false ∨ limit ≤ d.hits) (raw : Nat) (trim : Int) :
    (d.sample hit limit raw trim).sum = d.sum + trimmedSample raw trim ∧ (d.sample hit limit raw trim).count = d.count + 1 := by
  rcases taken with rfl | reached
  · exact ⟨rfl, rfl⟩
  · cases hit
    · exact ⟨rfl, rfl⟩
    · simp [Dwell.sample, blanking, Nat.not_lt.2 reached]

theorem Dwell.sample_of_excused {hit : Bool} {limit : Nat} (struck : hit = true) (below : d.hits < limit) (raw : Nat) (trim : Int) :
    (d.sample hit limit raw trim).sum = d.sum ∧ (d.sample hit limit raw trim).count = d.count := by
  simp [Dwell.sample, blanking, struck, below]

/-- The dwell's result after a sampled report, from the sum and the count that the report's verdict gives (R46, R47). -/
theorem Dwell.sample_result {hit : Bool} {limit raw sum count : Nat} {trim : Int}
    (taken : hit = false ∨ limit ≤ d.hits → sum = d.sum + trimmedSample raw trim ∧ count = d.count + 1)
    (excused : hit = true → d.hits < limit → sum = d.sum ∧ count = d.count) :
    (d.sample hit limit raw trim).result = if count = 0 then none else some (sum / count) := by
  suffices counted : (d.sample hit limit raw trim).sum = sum ∧ (d.sample hit limit raw trim).count = count by
    rw [Dwell.result, counted.1, counted.2]
  by_cases use : hit = false ∨ limit ≤ d.hits
  · obtain ⟨rfl, rfl⟩ := taken use
    exact Dwell.sample_of_taken use raw trim
  · obtain ⟨struck, below⟩ := not_or.1 use
    rw [Bool.not_eq_false] at struck
    obtain ⟨rfl, rfl⟩ := excused struck (not_le.1 below)
    exact Dwell.sample_of_excused struck (not_le.1 below) raw trim

theorem switchRequirement_eq (phase : LanePhase) (qi margin : Nat) :
    switchRequirement phase qi margin = qi + if phase = .fade then max 1 (margin / 2) else margin := by
  cases phase <;> rfl

/-! ### The end of a dwell (R47, R88, R89) -/

/-- The lane whose dwell has ended with `result` (R88, R89). -/
def Lane.afterDwell (l : Lane) (p : TunePlan) (now : Time) (result : Option Nat) : Lane :=
  { l with
    switchOrder := switchDecision l p result
    surveyTimer := some (now + BitVec.ofNat 48 (p.surveyInterval * 1000000)) }

/-- The part once lane n's dwell has ended with `result`, before the next choice (R89). -/
def State.afterDwell (s : State) (n : LaneId) (p : TunePlan) (result : Option Nat) : State :=
  { s with
    lanes := s.lanes.set n ((s.lane n).afterDwell p s.time result)
    survey := { s.survey with lastMean := s.survey.lastMean.set n result, dwell := none, tap := .idle } }

theorem State.endDwell_eq (noOrder : (s.lane d.lane).switchOrder = none) (p : TunePlan) :
    s.endDwell d p = (s.afterDwell d.lane p d.result).surveySettle := by
  cases order : switchDecision (s.lane d.lane) p d.result <;>
    simp only [State.endDwell, State.modLane, State.afterDwell, Lane.afterDwell, order, noOrder] <;> rfl

/-- The last sampled report ends the dwell with what the dwell holds after it. -/
theorem State.takeSurveyReport_last {e : Dwell} {signal error : BitVec 16} (settled : 2 ≤ d.settling) (last : d.sampled + 1 = d.length)
    (noOrder : (s.lane d.lane).switchOrder = none)
    (sampled : d.sample s.survey.tap.hit p.blankLimit (rawSample signal error) (s.station.trim d.mast) = e) :
    s.takeSurveyReport d p signal error = (s.afterDwell d.lane p e.result).surveySettle := by
  obtain ⟨count, length⟩ := d.sample_counts s.survey.tap.hit p.blankLimit (rawSample signal error) (s.station.trim d.mast)
  obtain ⟨lane, -, -⟩ := d.sample_keeps s.survey.tap.hit p.blankLimit (rawSample signal error) (s.station.trim d.mast)
  rw [sampled] at count length lane
  simp only [State.takeSurveyReport]
  rw [if_neg (by omega), sampled, if_pos (by omega)]
  refine (State.endDwell_eq (by rw [lane]; exact noOrder) p).trans ?_
  rw [lane]
  rfl

/-! ### The next choice (R80 to R82) -/

theorem State.surveySettle_idle (idle : s.survey.dwell = none) : s.surveySettle = s.chooseSurvey := by
  simp only [State.surveySettle, State.preempt, idle]

theorem State.chooseSurvey_lastMean (s : State) : s.chooseSurvey.survey.lastMean = s.survey.lastMean := by
  unfold State.chooseSurvey
  split
  · rfl
  split
  · rfl
  rename_i r _
  rcases s.startDwell_cases r with ⟨-, same⟩ | ⟨p, mast, -, -, started⟩
  · rw [same]
  · rw [started]

/-- A choice gives no lane a request that had none. -/
theorem State.chooseSurvey_surveyed {n : LaneId} (surveyed : n ∈ s.chooseSurvey.surveyed) : n ∈ s.surveyed := by
  unfold State.chooseSurvey at surveyed
  split at surveyed
  · exact surveyed
  split at surveyed
  · exact surveyed
  rename_i r chosen
  have waits := (List.mem_filter.1 (chooseRequest_some chosen).1).1
  rcases s.startDwell_cases r with ⟨-, same⟩ | ⟨p, mast, -, -, started⟩
  · rwa [same] at surveyed
  · rw [started, State.mem_surveyed] at surveyed
    rcases surveyed with ⟨q, hq, rfl⟩ | ⟨d, hd, rfl⟩
    · exact (s.mem_surveyed _).2 (.inl ⟨q, List.mem_of_mem_erase hq, rfl⟩)
    · cases hd
      exact (s.mem_surveyed _).2 (.inl ⟨r, waits, rfl⟩)

theorem chooseRequest_nil (order : SurveyOrder) : chooseRequest order [] = none := by
  cases order <;> rfl

/-- With no request waiting and no dwell running the Survey Unit idles (R80). -/
theorem State.surveySettle_nobody (idle : s.survey.dwell = none) (empty : s.survey.queue = []) : s.surveySettle = s := by
  rw [State.surveySettle_idle idle]
  simp only [State.chooseSurvey, idle, empty, List.filter_nil, chooseRequest_nil]

/-- After a dwell's end the surveyed lane has no request left, the last survey means are those given, and the next choice is made. -/
theorem State.afterDwell_settles (s : State) (n : LaneId) (p : TunePlan) (result : Option Nat) :
    (s.afterDwell n p result).surveySettle.lanes = (s.afterDwell n p result).lanes ∧
    (s.afterDwell n p result).surveySettle.survey.lastMean = s.survey.lastMean.set n result ∧
    NextChoice (s.afterDwell n p result) (s.afterDwell n p result).surveySettle := by
  rw [State.surveySettle_lanes, State.surveySettle_idle rfl, State.chooseSurvey_lastMean]
  exact ⟨rfl, rfl, State.chooseSurvey_next rfl⟩

theorem State.afterDwell_noRequest {n : LaneId} (p : TunePlan) (result : Option Nat) (own : ∀ r ∈ s.survey.queue, r.lane ≠ n) :
    (s.afterDwell n p result).surveySettle.hasRequest n = false := by
  rw [State.surveySettle_idle rfl, ← Bool.not_eq_true, State.hasRequest_iff]
  intro surveyed
  rcases (State.mem_surveyed _ n).1 (State.chooseSurvey_surveyed surveyed) with ⟨r, hr, same⟩ | ⟨d, hd, -⟩
  · exact own r hr same
  · cases hd

theorem State.afterDwell_frame (s : State) (n : LaneId) (p : TunePlan) (result : Option Nat) :
    { (s.afterDwell n p result).surveySettle with lanes := s.lanes, survey := s.survey } = s :=
  congrArg (fun t : State => { t with lanes := s.lanes, survey := s.survey }) (s.afterDwell n p result).surveySettle_frame

/-- The lane a dwell's end leaves, by the requirement its mean must reach (R88). -/
theorem Lane.afterDwell_eq (l : Lane) (p : TunePlan) (now : Time) (result : Option Nat) {need : Nat}
    (needs : need = l.tracker.qi + if l.phase = .fade then max 1 (p.margin / 2) else p.margin) :
    l.afterDwell p now result = { l with
      switchOrder := result.filter fun mean => decide (need ≤ mean)
      surveyTimer := some (now + BitVec.ofNat 48 (p.surveyInterval * 1000000)) } := by
  rw [Lane.afterDwell, switchDecision_eq, switchRequirement_eq, ← needs]

end

/-! ### A take, in the terms of R110 -/

section
variable {s t v : State} {n : LaneId} {p : TunePlan} {plan : AcceptedPlan}

theorem Lane.enterOff_eq_afterStop (l : Lane) (now : Time) : { l.enterOff now with counters := .zero } = l.afterStop now := by
  simp [Lane.enterOff, Lane.afterStop, Lane.reset]

theorem State.applyStop_eq (s : State) (n : LaneId) (notify : NotifyFlags) : s.applyStop n notify = s.afterStop n notify := by
  have flag : (!(s.lane n).phase == .off) = decide ((s.lane n).phase ≠ .off) := by
    cases (s.lane n).phase <;> rfl
  simp only [State.applyStop, State.modLane, Lane.enterOff_eq_afterStop, flag]
  rfl

theorem State.applyRetune_eq (s : State) (n : LaneId) (p : TunePlan) : s.applyRetune n p = s.afterRetune n p :=
  State.setLane_enterSeek s n _ p

theorem LanePhase.delivers_iff {phase : LanePhase} : phase.delivers = true ↔ phase = .lock ∨ phase = .fade := by
  cases phase <;> simp [LanePhase.delivers]

theorem Lane.update_eq_afterUpdate (l : Lane) (p : TunePlan) (now : Time) : l.update p now = l.afterUpdate p now := by
  simp only [Lane.update, Lane.afterUpdate, Bool.and_eq_true, LanePhase.delivers_iff]
  rfl

theorem State.applyUpdate_eq (s : State) (n : LaneId) (p : TunePlan) : s.applyUpdate n p = s.afterUpdate n p := by
  simp only [State.applyUpdate, State.modLane, Lane.update_eq_afterUpdate]
  rfl

theorem State.finishTake_eq (s : State) (n : LaneId) (tag : Tag) (adjusted : BitVec 16) :
    s.finishTake n tag adjusted = s.afterTake n tag adjusted := rfl

/-- A TUNE in OFF applies as a retune does, and so does one against the plan it retunes; any other updates (R110). -/
theorem State.applyTune_off (off : (s.lane n).phase = .off) (p : TunePlan) : s.applyTune n p = s.applyRetune n p := by
  simp only [State.applyTune, off]

theorem State.applyTune_on {old : TunePlan} (on : (s.lane n).phase ≠ .off) (applied : (s.lane n).applied = some old) (p : TunePlan) :
    s.applyTune n p = if isRetune s.station.modes (s.lane n).activeMast old p = true then s.applyRetune n p else s.applyUpdate n p := by
  cases phase : (s.lane n).phase
  case off => exact absurd phase on
  all_goals simp only [State.applyTune, phase, applied]

/-- What R110 says of a take of a lane in OFF, or with a plan applied, is what the take does. -/
theorem Takes.eq_takePlan (takes : Takes s n plan t) (holds : (s.lane n).phase = .off ∨ (s.lane n).applied.isSome = true) :
    t = s.takePlan n plan := by
  cases plan with
  | stop tag notify => rw [State.takePlan, State.finishTake_eq, State.applyStop_eq]; exact takes
  | tune tag q adjusted =>
    obtain ⟨inOff, otherwise⟩ := takes
    rw [State.takePlan, State.finishTake_eq]
    by_cases off : (s.lane n).phase = .off
    · rw [State.applyTune_off off, State.applyRetune_eq, inOff off]
    · obtain ⟨old, applied⟩ := Option.isSome_iff_exists.1 (holds.resolve_left off)
      obtain ⟨retune, update⟩ := otherwise old off applied
      rw [State.applyTune_on off applied]
      split
      · rename_i retunes
        rw [State.applyRetune_eq, retune retunes]
      · rename_i updates
        rw [State.applyUpdate_eq, update (by simpa using updates)]

theorem State.finishTake_lane (s : State) (n : LaneId) (tag : Tag) (adjusted : BitVec 16) :
    (s.finishTake n tag adjusted).lane n = (s.lane n).taken tag := by
  simp [State.finishTake, State.answerTaken, Lane.taken]

theorem State.afterStop_lane (s : State) (n : LaneId) (notify : NotifyFlags) :
    (s.afterStop n notify).lane n = (s.lane n).afterStop s.time := by
  rw [State.afterStop, State.raiseIf_lane]
  exact (State.withdrawRequest_lane _ n n).trans (State.setLane_lane_self s n _)

theorem State.afterRetune_lane (s : State) (n : LaneId) (p : TunePlan) :
    (s.afterRetune n p).lane n = Lane.afterSeekEntry { s.lane n with applied := some p, activeMast := p.mastPolicy.start } p s.time :=
  State.afterSeekEntry_lane s n _ p

theorem State.applyUpdate_lane (s : State) (n : LaneId) (p : TunePlan) : (s.applyUpdate n p).lane n = (s.lane n).update p s.time := by
  unfold State.applyUpdate
  simp only
  split <;> simp

/-- A take that leaves a switch order in place is a parameter update, and the lane state stays (R66, R92). -/
theorem State.takePlan_keeps_phase (waits : ((s.takePlan n plan).lane n).switchOrder ≠ none) :
    ((s.takePlan n plan).lane n).phase = (s.lane n).phase := by
  cases plan with
  | stop tag notify =>
    rw [State.takePlan, State.finishTake_lane, State.applyStop_eq, State.afterStop_lane] at waits
    exact absurd rfl waits
  | tune tag q adjusted =>
    rw [State.takePlan, State.finishTake_lane] at waits ⊢
    rcases s.applyTune_cases n q with same | ⟨old, -, -, same⟩ <;> rw [same] at waits ⊢
    · rw [State.applyRetune_eq, State.afterRetune_lane] at waits
      exact absurd rfl waits
    · rw [State.applyUpdate_lane]
      rfl

/-! ### A report that leaves the lane in LOCK or FADE (R53, R90) -/

variable {u : UsedSample} {period : Fin 16384} {signal error : BitVec 16} {frame : Bool}

theorem State.switchAtSymbolEnd_switches {mean : Nat} (delivers : (s.lane n).phase.delivers = true)
    (waits : (s.lane n).switchOrder = some mean) (applied : (s.lane n).applied = some p) :
    s.switchAtSymbolEnd n = s.afterSwitch n p mean := by
  simp only [State.switchAtSymbolEnd, waits, applied, delivers, if_true]
  rfl

/-- What a report that leaves the lane in LOCK or FADE keeps of what the rest of the command looks at. -/
structure Lane.StillDelivers (l l' : Lane) : Prop where
  delivers : l'.phase.delivers = true
  applied : l'.applied = l.applied
  pendingPlan : l'.pendingPlan = l.pendingPlan
  switchOrder : l'.switchOrder = l.switchOrder

theorem UsedReportStays.stillDelivers (stays : UsedReportStays s n p u v) : (s.lane n).StillDelivers (v.lane n) := by
  obtain ⟨plan, order⟩ := stays.waiting
  suffices kept : (v.lane n).phase.delivers = true ∧ (v.lane n).applied = (s.lane n).applied from ⟨kept.1, kept.2, plan, order⟩
  rcases stays with ⟨phase, run, -, ⟨-, rfl⟩ | ⟨-, t, rfl, rfl⟩⟩ | ⟨phase, run, -, ⟨-, -, rfl⟩ | ⟨-, rfl⟩⟩
  · simp [Lane.afterUsed, phase, LanePhase.delivers]
  · rw [State.raiseIf_lane, State.oweLane_lane]
    split <;> simp [Lane.afterUsed, LanePhase.delivers]
  · simp [Lane.afterUsed, phase, LanePhase.delivers]
  · simp [Lane.afterUsed, LanePhase.delivers]

theorem ReportStays.stillDelivers (stays : ReportStays s n p period signal error v) : (s.lane n).StillDelivers (v.lane n) := by
  rcases stays with ⟨u, -, stays⟩ | ⟨-, phase, rfl⟩
  · exact stays.stillDelivers
  · rw [State.setLane_lane_self]
    exact ⟨LanePhase.delivers_iff.2 (phase.imp_right And.left), rfl, rfl, rfl⟩

theorem ReportStays.applied (stays : ReportStays s n p period signal error v) : (s.lane n).applied = some p := by
  rcases stays with ⟨u, used, -⟩ | ⟨excused, -⟩
  · exact used.applied
  · exact excused.applied

/-- Such a report ends with a take at a frame-start and a switch that waits (R90, R105). -/
theorem ReportStays.exec_eq (stays : ReportStays s n p period signal error v) (frame : Bool) :
    exec (.symbolReport n period signal error frame) s = .next ((v.frameStartApply n frame).switchAtSymbolEnd n).settle := by
  have applied := stays.applied
  rcases stays with ⟨u, used, stays⟩ | ⟨excused, phase, rfl⟩
  · rw [execSymbolReport_taken (LanePhase.recognised.ne_off stays.recognised) applied, State.takeReport, used.hear stays.recognised frame]
    simp only [stays.acts]
  · have on : (s.lane n).phase ≠ .off := by
      rcases phase with phase | ⟨phase, -⟩ <;> rw [phase] <;> exact nofun
    have short : (s.lane n).phase = .fade → (s.lane n).hold + 1 < p.holdLimit := fun fade => by
      rcases phase with lock | ⟨-, short⟩
      · rw [lock] at fade
        cases fade
      · exact short
    rw [execSymbolReport_taken on applied, State.takeReport, excused.hear]
    simp only [State.actOnReport_excused on short]

/-- A waiting switch order takes effect at the end of such a report (R90). -/
theorem ReportStays.gives_switch {mean : Nat} (stays : ReportStays s n p period signal error v) (waits : (s.lane n).switchOrder = some mean)
    (noPlan : frame = false ∨ (s.lane n).pendingPlan = none) :
    Gives (.symbolReport n period signal error frame) s (v.afterSwitch n p mean) := by
  have still := stays.stillDelivers
  refine .of_settle ((stays.exec_eq frame).trans ?_)
  rw [State.frameStartApply_nothing (still.pendingPlan ▸ noPlan),
    State.switchAtSymbolEnd_switches still.delivers (still.switchOrder.trans waits) (still.applied.trans stays.applied)]

/-- At a frame-start a pending plan is taken after such a report and before the switch (R90, R105). -/
theorem ReportStays.exec_takes (stays : ReportStays s n p period signal error v) (pending : (s.lane n).pendingPlan = some plan)
    (takes : Takes v n plan t) : t = v.takePlan n plan ∧
      exec (.symbolReport n period signal error true) s = .next (t.switchAtSymbolEnd n).settle := by
  have still := stays.stillDelivers
  have same := takes.eq_takePlan (.inr (by rw [still.applied, stays.applied]; rfl))
  refine ⟨same, (stays.exec_eq true).trans ?_⟩
  simp only [State.frameStartApply, if_true, State.takePending, still.pendingPlan, pending, same]

end

/-- Settles O27: the dwell's last report by `State.takeSurveyReport_last`, a switch order by `ReportStays.gives_switch` and, after a take, by
`ReportStays.exec_takes`. -/
theorem surveyDwellEndDecides : Obligations.SurveyDwellEndDecides := by
  refine ⟨fun s d p signal error sum count need mean hd applied settled last noOrder own taken excused result needs => ?_,
    fun s v n p mean period signal error frame stays waits => ⟨stays.gives_switch waits, fun plan t pending takes => ?_⟩⟩
  · generalize sampled : d.sample s.survey.tap.hit p.blankLimit (rawSample signal error) (s.station.trim d.mast) = e
    have ended : e.result = mean := by rw [result, ← sampled, Dwell.sample_result taken excused]
    obtain ⟨lanes, means, next⟩ := s.afterDwell_settles d.lane p mean
    refine ⟨(s.afterDwell d.lane p mean).surveySettle, ?_, ?_, means, State.afterDwell_noRequest p mean own, fun empty => ?_, ?_,
      s.afterDwell_frame d.lane p mean⟩
    · rw [execSurveyReport_taken hd applied, State.takeSurveyReport_last settled last noOrder sampled, ended]
    · rw [lanes, State.afterDwell, Lane.afterDwell_eq _ p s.time mean needs]
    · rw [State.surveySettle_nobody (s := s.afterDwell d.lane p mean) rfl empty]
      exact ⟨rfl, rfl⟩
    · rw [lanes, means]
      exact next
  · obtain ⟨same, takes⟩ := stays.exec_takes pending takes
    refine ⟨fun dropped => .of_settle (takes.trans ?_), fun q kept applied => .of_settle (takes.trans ?_)⟩
    · rw [State.switchAtSymbolEnd_nothing (.inl dropped)]
    · have phase : (t.lane n).phase = (v.lane n).phase := by
        rw [same]
        exact State.takePlan_keeps_phase (by rw [← same, kept]; exact nofun)
      rw [State.switchAtSymbolEnd_switches (phase ▸ stays.stillDelivers.delivers) kept applied]

end Sys2Proof.Machine
end

section
namespace Sys2Proof.Machine

/-! PROOFS. Channel plans (spec/04, 06): which plans the lanes hold, command by command, then the ranges of the fields (R51, R101), the overlap rule
(R99) and the two invariants that rest on them. -/

/-! ### The plans a lane holds -/

/-- Every TUNE plan of a lane, applied or pending, satisfies `P`. -/
structure Lane.PlansMeet (P : TunePlan → Prop) (l : Lane) : Prop where
  applied : ∀ p, l.applied = some p → P p
  pending : ∀ tag p mask, l.pendingPlan = some (.tune tag p mask) → P p

/-- Every TUNE plan that lane n holds satisfies `P n`. -/
def PlansMeet (P : LaneId → TunePlan → Prop) (s : State) : Prop :=
  ∀ n, (s.lane n).PlansMeet (P n)

theorem plansMeet_iff {P : LaneId → TunePlan → Prop} {s : State} : PlansMeet P s ↔ ∀ n p, s.holds n p → P n p := by
  refine ⟨fun h n p holds => ?_, fun h n => ⟨fun p applied => h n p (.inl applied), fun tag p mask pending => h n p (.inr ⟨tag, mask, pending⟩)⟩⟩
  rcases holds with applied | ⟨tag, mask, pending⟩
  · exact (h n).applied p applied
  · exact (h n).pending tag p mask pending

section
variable {P : TunePlan → Prop} {l l' : Lane} {p : TunePlan}

theorem Lane.PlansMeet.congr (h : l.PlansMeet P) (applied : l'.applied = l.applied) (pending : l'.pendingPlan = l.pendingPlan) :
    l'.PlansMeet P :=
  ⟨applied ▸ h.applied, pending ▸ h.pending⟩

theorem Lane.PlansMeet.of_none (applied : l.applied = none) (pending : l.pendingPlan = none) : l.PlansMeet P :=
  ⟨fun p holds => by simp [applied] at holds, fun tag p mask holds => by simp [pending] at holds⟩

theorem Lane.PlansMeet.taken (h : l.PlansMeet P) (tag : Tag) : (l.taken tag).PlansMeet P :=
  ⟨h.applied, nofun⟩

/-- A plan put in force replaces the applied one and leaves a pending one (R55, R66). -/
theorem Lane.PlansMeet.apply (h : l.PlansMeet P) (meets : P p) (applied : l'.applied = some p) (pending : l'.pendingPlan = l.pendingPlan) :
    l'.PlansMeet P :=
  ⟨fun q holds => by cases applied.symm.trans holds; exact meets, pending ▸ h.pending⟩

theorem Lane.PlansMeet.hear (h : l.PlansMeet P) (station : StationSettings) (p : TunePlan) (r : SymbolReport) :
    (l.hear station p r).1.PlansMeet P := by
  rw [(l.hear_hears station p r).frame]
  exact h.congr rfl rfl

/-- The TUNE plan that an accepted plan carries, if it is one, satisfies `P`. -/
def AcceptedPlan.Meets (P : TunePlan → Prop) (plan : AcceptedPlan) : Prop :=
  ∀ tag p mask, plan = .tune tag p mask → P p

theorem Lane.PlansMeet.waiting {plan : AcceptedPlan} (h : l.PlansMeet P) (pending : l.pendingPlan = some plan) : plan.Meets P :=
  fun tag p mask same => h.pending tag p mask (same ▸ pending)

end

/-! ### Operations that bring no new plan -/

section
variable {P : LaneId → TunePlan → Prop} {s t : State} {n : LaneId} {l : Lane} {p : TunePlan}

/-- Only the lanes matter: not the Survey Unit, the answers, the notices or anything else. -/
theorem PlansMeet.of_lanes (h : PlansMeet P s) (lanes : t.lanes = s.lanes) : PlansMeet P t :=
  fun n => State.lane_congr lanes n ▸ h n

theorem PlansMeet.congr (same : t.reception = s.reception) (h : PlansMeet P s) : PlansMeet P t := by
  obtain ⟨-, -, lanes, -⟩ := State.reception_eq_iff.1 same
  exact h.of_lanes lanes

theorem PlansMeet.settle (h : PlansMeet P s) : PlansMeet P s.settle := h.of_lanes s.settle_lanes

theorem PlansMeet.setLane (h : PlansMeet P s) (meets : l.PlansMeet (P n)) : PlansMeet P (s.setLane n l) := by
  intro m
  rw [State.setLane_lane]
  split
  · rename_i same
    exact same ▸ meets
  · exact h m

/-- A change of a lane that touches neither of its plans. -/
theorem PlansMeet.modLane_apart (h : PlansMeet P s) (n : LaneId) (f : Lane → Lane) (applied : ∀ l, (f l).applied = l.applied)
    (pending : ∀ l, (f l).pendingPlan = l.pendingPlan) : PlansMeet P (s.modLane n f) :=
  h.setLane ((h n).congr (applied _) (pending _))

/-- An entry ends with the lane's record asked for and, under a flag, LANE raised. -/
theorem PlansMeet.told (h : PlansMeet P s) (n : LaneId) (b : Bool) : PlansMeet P ((s.oweLane n).raiseIf b .lane) :=
  h.congr (by simp)

theorem PlansMeet.withdrawRequest (h : PlansMeet P s) : PlansMeet P (s.withdrawRequest n) := h.of_lanes (State.withdrawRequest_lanes s n)

theorem PlansMeet.fileRequest (h : PlansMeet P s) (cls : SurveyClass) : PlansMeet P (s.fileRequest n cls) :=
  h.of_lanes (State.surveySettle_lanes _)

theorem PlansMeet.enterSeek (h : PlansMeet P s) : PlansMeet P (s.enterSeek n p) :=
  (h.modLane_apart n (fun l => l.enterSeek p s.time) (fun _ => rfl) fun _ => rfl).withdrawRequest.told n _

theorem PlansMeet.enterTrack (h : PlansMeet P s) : PlansMeet P (s.enterTrack n p) :=
  (h.modLane_apart n (fun l => l.enterTrack s.time) (fun _ => rfl) fun _ => rfl).told n _

theorem PlansMeet.enterLock (h : PlansMeet P s) : PlansMeet P (s.enterLock n p) :=
  (h.modLane_apart n (fun l => l.enterLock p s.time) (fun _ => rfl) fun _ => rfl).told n _

theorem PlansMeet.recoverLock (h : PlansMeet P s) : PlansMeet P (s.recoverLock n p) :=
  (h.modLane_apart n (fun l => l.recover s.time) (fun _ => rfl) fun _ => rfl).told n _

theorem PlansMeet.enterFade (h : PlansMeet P s) : PlansMeet P (s.enterFade n p) := by
  have faded : PlansMeet P (s.modLane n fun l => l.enterFade s.time) := h.modLane_apart n _ (fun _ => rfl) fun _ => rfl
  unfold State.enterFade
  simp only
  split
  · exact PlansMeet.told (faded.of_lanes (State.fadeRequest_lanes _ n)) n _
  · exact faded.told n _

/-! ### Takes (R66, R67, R105 to R110) -/

theorem PlansMeet.applyStop (h : PlansMeet P s) (notify : NotifyFlags) : PlansMeet P (s.applyStop n notify) := by
  have left : PlansMeet P (s.modLane n fun l => { l.enterOff s.time with counters := .zero }) :=
    h.setLane ⟨nofun, (h n).pending⟩
  exact PlansMeet.congr (State.raiseIf_reception _ _ _) (left.withdrawRequest.of_lanes rfl)

theorem PlansMeet.applyRetune (h : PlansMeet P s) (meets : P n p) : PlansMeet P (s.applyRetune n p) :=
  PlansMeet.enterSeek (h.setLane ((h n).apply meets rfl rfl))

theorem PlansMeet.applyUpdate (h : PlansMeet P s) (meets : P n p) : PlansMeet P (s.applyUpdate n p) := by
  have updated : PlansMeet P (s.modLane n fun l => l.update p s.time) := h.setLane ((h n).apply meets rfl rfl)
  unfold State.applyUpdate
  simp only
  split
  · exact updated
  · exact updated.withdrawRequest

theorem PlansMeet.finishTake (h : PlansMeet P s) (tag : Tag) (adjusted : BitVec 16) : PlansMeet P (s.finishTake n tag adjusted) :=
  PlansMeet.congr rfl (h.setLane (n := n) ((h n).taken tag))

/-- A take puts the plan taken in force or stops the lane; it brings no other plan (R108, R110). -/
theorem PlansMeet.takePlan {plan : AcceptedPlan} (h : PlansMeet P s) (meets : plan.Meets (P n)) : PlansMeet P (s.takePlan n plan) := by
  cases plan with
  | stop tag notify => exact (h.applyStop notify).finishTake tag 0
  | tune tag p adjusted =>
    have meets : P n p := meets tag p adjusted rfl
    refine PlansMeet.finishTake ?_ tag adjusted
    rcases s.applyTune_cases n p with same | ⟨-, -, -, same⟩ <;> rw [same]
    · exact h.applyRetune meets
    · exact h.applyUpdate meets

theorem PlansMeet.takePending (h : PlansMeet P s) : PlansMeet P (s.takePending n) := by
  unfold State.takePending
  split
  · exact h
  · exact h.takePlan ((h n).waiting ‹_›)

/-! ### The symbol report (R53, R90) -/

theorem PlansMeet.leaveForSeek (h : PlansMeet P s) : PlansMeet P (s.leaveForSeek n p) := h.enterSeek.takePending

theorem PlansMeet.actTrack (h : PlansMeet P s) (used : Bool) : PlansMeet P (s.actTrack n p used) := by
  have counted (run : Nat) : PlansMeet P (s.modLane n fun l => { l with lockIn := run }) :=
    h.modLane_apart n _ (fun _ => rfl) fun _ => rfl
  unfold State.actTrack
  split
  · simp only
    split
    · exact (counted _).enterLock
    · exact counted _
  · exact h

theorem PlansMeet.actLock (h : PlansMeet P s) (used : Bool) : PlansMeet P (s.actLock n p used) := by
  have counted (run : Nat) : PlansMeet P (s.modLane n fun l => { l with fadeRun := run }) :=
    h.modLane_apart n _ (fun _ => rfl) fun _ => rfl
  unfold State.actLock
  split
  · simp only
    split
    · exact (counted _).enterFade
    · exact counted _
  · exact h

theorem PlansMeet.actFade (h : PlansMeet P s) (used : Bool) : PlansMeet P (s.actFade n p used) := by
  have counted (run : Nat) : PlansMeet P (s.modLane n fun l => { l with recoverRun := run, hold := l.hold + 1 }) :=
    h.modLane_apart n _ (fun _ => rfl) fun _ => rfl
  unfold State.actFade
  simp only
  generalize (if used = true then nextRun _ _ else (s.lane n).recoverRun) = run
  split
  · exact (counted run).recoverLock
  split
  · exact (counted run).leaveForSeek
  · exact counted run

theorem PlansMeet.actOnReport (h : PlansMeet P s) (v : ReportVerdict) : PlansMeet P (s.actOnReport n p v) := by
  unfold State.actOnReport
  split
  · exact h.enterTrack
  · exact h.leaveForSeek
  split
  · exact h
  · exact h
  · exact h.actTrack v.used
  · exact h.actLock v.used
  · exact h.actFade v.used

theorem PlansMeet.switchAtSymbolEnd (h : PlansMeet P s) : PlansMeet P (s.switchAtSymbolEnd n) := by
  unfold State.switchAtSymbolEnd
  simp only
  split
  · rename_i mean p _ _
    split
    · have switched : PlansMeet P (s.setLane n ((s.lane n).switchMast mean p s.time)) := h.setLane ((h n).congr rfl rfl)
      exact PlansMeet.told (switched.of_lanes (State.surveySettle_lanes _)) n _
    · exact h
  · exact h

theorem PlansMeet.takeReport (h : PlansMeet P s) (r : SymbolReport) : PlansMeet P (s.takeReport n p r) := by
  have acted := (h.setLane (n := n) ((h n).hear s.station p r)).actOnReport (n := n) (p := p) ((s.lane n).hear s.station p r).2
  unfold State.takeReport State.frameStartApply
  refine PlansMeet.switchAtSymbolEnd ?_
  split
  · exact acted.takePending
  · exact acted

/-! ### The survey report (R83 to R89) -/

theorem PlansMeet.endDwell (h : PlansMeet P s) (d : Dwell) (p : TunePlan) : PlansMeet P (s.endDwell d p) := by
  have decided : PlansMeet P (s.modLane d.lane fun l => { l with
      switchOrder := match switchDecision (s.lane d.lane) p d.result with
        | none => l.switchOrder
        | some mean => some mean
      surveyTimer := some (deadline s.time (p.surveyInterval * Config.oneSecond)) }) :=
    h.modLane_apart d.lane _ (fun _ => rfl) fun _ => rfl
  exact decided.of_lanes (State.surveySettle_lanes _)

theorem PlansMeet.takeSurveyReport (h : PlansMeet P s) (d : Dwell) (p : TunePlan) (signal error : BitVec 16) :
    PlansMeet P (s.takeSurveyReport d p signal error) := by
  unfold State.takeSurveyReport
  simp only
  split
  · exact h.of_lanes rfl
  split
  · exact PlansMeet.endDwell (h.of_lanes rfl) _ p
  · exact h.of_lanes rfl

end

end Sys2Proof.Machine
end

section
namespace Sys2Proof.Machine

/-! ### The overlap rule (R99) and the checks of R98 -/

theorem overlapsPlan_iff {centre bandwidth : Nat} {q : TunePlan} :
    overlapsPlan centre bandwidth q = true ↔ ChannelsOverlap centre bandwidth q.centre q.bandwidth := by
  simp only [overlapsPlan, channelsShare, ChannelsOverlap, Bool.and_eq_true, decide_eq_true_eq, Bool.not_eq_true', Bool.and_eq_false_iff,
    beq_eq_false_iff_ne, not_and_or, and_assoc]
  omega

theorem ChannelsOverlap.symm {c₁ b₁ c₂ b₂ : Nat} (h : ChannelsOverlap c₁ b₁ c₂ b₂) : ChannelsOverlap c₂ b₂ c₁ b₁ := by
  obtain ⟨below, above, differ⟩ := h
  exact ⟨above, below, fun ⟨centre, bandwidth⟩ => differ ⟨centre.symm, bandwidth.symm⟩⟩

theorem overlapsLane_iff {s : State} {m : LaneId} {centre bandwidth : Nat} :
    overlapsLane centre bandwidth (s.lane m) = true ↔ ∃ q, s.holds m q ∧ ChannelsOverlap centre bandwidth q.centre q.bandwidth := by
  simp only [overlapsLane, State.holds, Bool.or_eq_true, or_and_right, exists_or]
  refine or_congr ?_ ?_
  · cases (s.lane m).applied with
    | none => simp
    | some p => simp [overlapsPlan_iff]
  · rcases (s.lane m).pendingPlan with _ | ⟨tag, p, mask⟩ | ⟨tag, notify⟩
    · simp
    · simp [overlapsPlan_iff]
    · simp

theorem State.overlapsOthers_iff {s : State} {n : LaneId} {centre bandwidth : Nat} :
    s.overlapsOthers n centre bandwidth = true ↔
      ∃ m q, m ≠ n ∧ s.holds m q ∧ ChannelsOverlap centre bandwidth q.centre q.bandwidth := by
  simp only [State.overlapsOthers, List.any_eq_true, mem_allLanes, true_and, Bool.and_eq_true, bne_iff_ne, overlapsLane_iff,
    exists_and_left]

/-- A TUNE that the checks accept is the staged one clamped; its bandwidth is one of the three, its channel lies in the band, and no other lane
holds a channel it overlaps (R98, R101). -/
theorem State.checkPlan_tune {s : State} {n : LaneId} {h : SlotHostHalf} {tag : Tag} {p : TunePlan} {mask : BitVec 16}
    (accepts : s.checkPlan n h = .accept (.tune tag p mask)) :
    (∃ mode, p = h.clamped mode) ∧ (h.bandwidth = 6 ∨ h.bandwidth = 7 ∨ h.bandwidth = 8) ∧ outsideBand h.centre h.bandwidth = false ∧
      s.overlapsOthers n h.centre h.bandwidth = false := by
  unfold State.checkPlan at accepts
  split at accepts
  · cases accepts
  · cases accepts
  unfold State.checkTune at accepts
  split at accepts
  · cases accepts
  rename_i bandwidth
  split at accepts
  · cases accepts
  rename_i inside
  split at accepts
  · cases accepts
  rename_i mode _
  split at accepts
  · cases accepts
  split at accepts
  · cases accepts
  rename_i apart
  cases accepts
  refine ⟨⟨mode, rfl⟩, ?_, Bool.not_eq_true _ ▸ inside, Bool.not_eq_true _ ▸ apart⟩
  simpa only [Bool.not_eq_true', Bool.not_eq_false, Bool.or_eq_true, beq_iff_eq, or_assoc] using bandwidth

/-- The checks look at the station settings and the lanes alone. -/
theorem State.checkPlan_congr {s t : State} (lanes : t.lanes = s.lanes) (station : t.station = s.station) (n : LaneId) (h : SlotHostHalf) :
    t.checkPlan n h = s.checkPlan n h := by
  have others : t.overlapsOthers n h.centre h.bandwidth = s.overlapsOthers n h.centre h.bandwidth := by
    unfold State.overlapsOthers
    simp only [State.lane_congr lanes]
  have tune : t.checkTune n h = s.checkTune n h := by
    unfold State.checkTune
    rw [others, station]
  unfold State.checkPlan
  rw [tune]

/-! ### The values in force (R51, R101) -/

/-- QU in force is the staged one, or one less than QL where that is lower (R51). -/
theorem clampUnlock_eq {lock : Nat} (positive : 1 ≤ lock) (raw : Nat) : clampUnlock lock raw = min raw (lock - 1) := by
  unfold clampUnlock
  split <;> omega

theorem clamp_of_le {lo hi x : Nat} (bounds : lo ≤ hi) (h : x ≤ hi) : clamp lo hi x = max lo x := by
  rw [clamp_eq lo hi x bounds, min_eq_right h]

theorem mastPolicyOf_eq (code : Nat) :
    mastPolicyOf code = (if code = 0 then .mastA else if code = 1 then .mastB else if code = 3 then .autoB else .autoA) := by
  unfold mastPolicyOf
  split
  · rfl
  · rfl
  · rfl
  · rfl
  · rename_i none one _ three
    rw [if_neg none, if_neg one, if_neg three]

theorem outsideBand_eq_false {centre bandwidth : Nat} :
    outsideBand centre bandwidth = false ↔ 174000 + 500 * bandwidth ≤ centre ∧ centre + 500 * bandwidth ≤ 862000 := by
  simp only [outsideBand, Bool.or_eq_false_iff, decide_eq_false_iff_not, Nat.not_lt]
  rfl

/-- The clamp puts every field in its range (R51, R101). -/
theorem SlotHostHalf.clamped_inRange {h : SlotHostHalf} (mode : ModePolicy) (bandwidth : h.bandwidth = 6 ∨ h.bandwidth = 7 ∨ h.bandwidth = 8)
    (inside : outsideBand h.centre h.bandwidth = false) : (h.clamped mode).inRange := by
  have lock : clampLock h.lockThreshold = max 1 (min 127 h.lockThreshold) := clamp_eq 1 127 _ (by decide)
  have unlock := clampUnlock_eq (lock := clampLock h.lockThreshold) (by omega) h.unlockThreshold
  rw [outsideBand_eq_false] at inside
  simp only [TunePlan.inRange, SlotHostHalf.clamped]
  rw [clamp_eq 1 63 h.lockCount (by decide), clamp_eq 1 63 h.fadeCount (by decide), clamp_eq 1 63 h.recoverCount (by decide),
    clamp_eq 16 65535 h.holdLimit (by decide), clamp_eq 1 6 h.smoothing (by decide), clamp_eq 0 15 h.blankLimit (by decide),
    clamp_eq 1 255 h.seekLimit (by decide), clamp_eq 1 255 h.surveyInterval (by decide), clamp_eq 8 255 h.dwell (by decide),
    clamp_eq 1 31 h.margin (by decide)]
  omega

theorem SlotHostHalf.adjustedMask_getLsbD (h : SlotHostHalf) (p : TunePlan) {i : Nat} (place : i < 16) :
    (h.adjustedMask p).getLsbD i = [decide (3 < h.mastCode), p.lockThreshold != h.lockThreshold,
      p.unlockThreshold != h.unlockThreshold, p.lockCount != h.lockCount, p.fadeCount != h.fadeCount,
      p.recoverCount != h.recoverCount, p.holdLimit != h.holdLimit, p.smoothing != h.smoothing, p.blankLimit != h.blankLimit,
      p.seekLimit != h.seekLimit, p.surveyInterval != h.surveyInterval, p.dwell != h.dwell, p.margin != h.margin][i]?.getD false := by
  rw [SlotHostHalf.adjustedMask, flags_getLsbD]
  simp [place, List.getD_eq_getElem?_getD]

end Sys2Proof.Machine
end

section
namespace Sys2Proof.Machine

section
variable {P : LaneId → TunePlan → Prop} {s t : State} {n : LaneId} {l : Lane} {p : TunePlan}

/-! ### Commands of a lane and of the Survey Unit -/

theorem PlansMeet.execSymbolReport (h : PlansMeet P s) (period : Fin 16384) (signal error : BitVec 16) (frame : Bool) :
    Answers (PlansMeet P) (execSymbolReport n period signal error frame s) := by
  unfold Machine.execSymbolReport
  split
  · exact answers_next.2 h
  · exact answers_next.2 h
  · exact answers_next.2 (h.takeReport _).settle

theorem PlansMeet.execSurveyReport (h : PlansMeet P s) (signal error : BitVec 16) :
    Answers (PlansMeet P) (execSurveyReport signal error s) := by
  unfold Machine.execSurveyReport
  split
  · exact answers_next.2 h
  split
  · exact answers_next.2 h
  · exact answers_next.2 (h.takeSurveyReport _ _ signal error)

theorem PlansMeet.seekCycle (h : PlansMeet P s) : PlansMeet P (s.seekCycle n p) := by
  have toggled : PlansMeet P (s.modLane n fun l => { l with
      counters := { l.counters with seekCycles := satInc l.counters.seekCycles }
      activeMast := if p.mastPolicy.isAuto then opposite l.activeMast else l.activeMast }) :=
    h.modLane_apart n _ (fun _ => rfl) fun _ => rfl
  exact toggled.enterSeek.congr (State.raiseIf_reception _ _ _)

theorem PlansMeet.execSeekTimerExpiry (h : PlansMeet P s) : Answers (PlansMeet P) (execSeekTimerExpiry n s) := by
  unfold Machine.execSeekTimerExpiry
  simp only
  split
  · split
    · exact answers_next.2 h.seekCycle.settle
    · exact answers_next.2 h.seekCycle.settle
    · exact answers_next.2 (h.setLane ((h n).congr rfl rfl))
  · exact answers_next.2 h

theorem PlansMeet.execSurveyIntervalExpiry (h : PlansMeet P s) : Answers (PlansMeet P) (execSurveyIntervalExpiry n s) := by
  have stopped : PlansMeet P (s.setLane n { s.lane n with surveyTimer := none }) := h.setLane ((h n).congr rfl rfl)
  unfold Machine.execSurveyIntervalExpiry
  simp only
  split
  · generalize (LanePhase.delivers _ && _ && _) = files
    cases files
    · exact answers_next.2 stopped
    · exact answers_next.2 (stopped.fileRequest .lock)
  · exact answers_next.2 h

theorem PlansMeet.execApplyWindowExpiry (h : PlansMeet P s) : Answers (PlansMeet P) (execApplyWindowExpiry n s) := by
  have closed : PlansMeet P (s.setLane n { s.lane n with applyWindow := none }) := h.setLane ((h n).congr rfl rfl)
  unfold Machine.execApplyWindowExpiry
  simp only
  split
  · exact answers_next.2 closed.takePending.settle
  · exact answers_next.2 h

theorem PlansMeet.offerToRouter (h : PlansMeet P s) (q : Packet) : PlansMeet P (s.offerToRouter n q) := by
  have counted (mark : Lane → Bool) (count : LaneCounters → LaneCounters) :
      PlansMeet P (s.modLane n fun l => { l with firstAfterLock := mark l, counters := count l.counters }) :=
    h.modLane_apart n _ (fun _ => rfl) fun _ => rfl
  unfold State.offerToRouter
  split
  · exact (counted (fun _ => false) fun c => { c with delivered := satInc c.delivered }).of_lanes rfl
  · exact (counted Lane.firstAfterLock fun c => { c with routerDrops := satInc c.routerDrops }).of_lanes rfl

theorem PlansMeet.execPacketGate (h : PlansMeet P s) (packet : Vector Byte 188) (m : Mast) (un : Bool) (cor : Fin 9) :
    Answers (PlansMeet P) (execPacketGate n packet m un cor s) := by
  have counted (count : LaneCounters → LaneCounters) : PlansMeet P (s.modLane n fun l => { l with counters := count l.counters }) :=
    h.modLane_apart n _ (fun _ => rfl) fun _ => rfl
  unfold Machine.execPacketGate
  split <;> rw [answers_next]
  · exact h
  · exact h
  · exact counted fun c => { c with preLockDiscards := satInc c.preLockDiscards }
  all_goals exact (counted (·.pass un cor)).offerToRouter _

/-! ### Completions (R95, R170, R171) -/

theorem PlansMeet.execStationBlockReadComplete (h : PlansMeet P s) (result : ReadResult 256) :
    Answers (PlansMeet P) (execStationBlockReadComplete result s) := by
  unfold Machine.execStationBlockReadComplete
  split
  · exact answers_next.2 h
  rename_i t _
  split
  · have ended := h.congr (s.endRead_reception t (result == .error) .planFetcher)
    simp only
    split
    · exact answers_next.2 ended
    split
    · split
      · exact answers_next.2 (PlansMeet.settle (ended.of_lanes rfl))
      · rename_i block
        obtain ⟨-, lanes, -⟩ := (s.endRead t (ReadResult.data block == .error) .planFetcher).finishLoad_frame block
        exact answers_next.2 (PlansMeet.settle (ended.of_lanes lanes))
    · exact answers_next.2 ended.settle
  · exact answers_next.2 h

theorem PlansMeet.execStatusRecordWriteComplete (h : PlansMeet P s) (result : WriteResult) :
    Answers (PlansMeet P) (execStatusRecordWriteComplete result s) := by
  unfold Machine.execStatusRecordWriteComplete
  split
  · exact answers_next.2 h
  rename_i t _
  split
  · have ended := h.congr (s.endWrite_reception t result .statusWriter)
    simp only
    split
    · exact answers_next.2 ended
    split
    · obtain ⟨-, lanes, -⟩ := (s.endWrite t result .statusWriter).endStopping_frame
      exact answers_next.2 (PlansMeet.settle (ended.of_lanes lanes))
    · exact answers_next.2 ended.settle
  · exact answers_next.2 h

/-- A Lane Slot brings lane n no plan but the one that the checks accept (R98, R102). -/
theorem PlansMeet.examineSlot (h : PlansMeet P s) {slot : Vector Byte 64}
    (accepted : ∀ tag p mask, s.checkPlan n (hostHalf slot) = .accept (.tune tag p mask) → P n p) : PlansMeet P (s.examineSlot n slot) := by
  unfold State.examineSlot
  simp only
  split
  · exact h
  split
  · exact h
  split
  · exact h
  split
  · exact h.congr (State.setAnswer_reception _ _ _)
  rename_i plan accepts
  have meets : plan.Meets (P n) := fun tag p mask same => accepted tag p mask (same ▸ accepts)
  have answered := h.congr (State.setAnswer_reception s n { s.answer n with lastAnswered := some (hostHalf slot).tag })
  unfold State.acceptPlan
  simp only
  split
  · have held := answered.setLane (n := n) (l := { s.lane n with
      pendingPlan := some plan, applyWindow := some (deadline s.time Config.applyWindowLength) })
      ⟨(h n).applied, fun tag p mask same => meets tag p mask (Option.some.inj same)⟩
    exact held.of_lanes rfl
  · exact answered.takePlan meets

/-- The command brings lane n the plan `p`: it is the completion of a read of the lane's slot whose data the checks accept (R95, R98). -/
def Brings (c : Instr) (s : State) (n : LaneId) (p : TunePlan) : Prop :=
  ∃ slot t tag mask, c = .laneSlotReadComplete (.data slot) ∧ s.arbiter.port = some t ∧ t.kind = .laneSlotRead n ∧
    s.checkPlan n (hostHalf slot) = .accept (.tune tag p mask)

theorem PlansMeet.execLaneSlotReadComplete (h : PlansMeet P s) (result : ReadResult 64)
    (brought : ∀ n p, Brings (.laneSlotReadComplete result) s n p → P n p) :
    Answers (PlansMeet P) (execLaneSlotReadComplete result s) := by
  unfold Machine.execLaneSlotReadComplete
  split
  · exact answers_next.2 h
  rename_i t port
  split
  · rename_i n kind
    have ended := h.congr (s.endRead_reception t (result == .error) .planFetcher)
    have dropped := ended.congr (State.dropItem_reception _)
    simp only
    split
    · exact answers_next.2 ended
    split
    · exact answers_next.2 dropped.settle
    · rename_i slot
      refine answers_next.2 (PlansMeet.settle (dropped.examineSlot fun tag p mask accepts => brought n p ⟨slot, t, tag, mask, rfl, port, kind, ?_⟩))
      obtain ⟨-, station, lanes, -⟩ := State.reception_eq_iff.1 (s.endRead_reception t (ReadResult.data slot == .error) .planFetcher)
      rw [← accepts]
      exact (State.checkPlan_congr (t := State.dropItem _) lanes station n _).symm
  · exact answers_next.2 h

/-! ### Every command -/

/-- With no lane holding a plan there is nothing to ask. -/
theorem PlansMeet.of_none (none : ∀ n, (t.lane n).applied = none ∧ (t.lane n).pendingPlan = none) : PlansMeet P t :=
  fun n => .of_none (none n).1 (none n).2

theorem PlansMeet.of_reset_lanes (lanes : t.lanes = State.reset.lanes) : PlansMeet P t := by
  refine .of_none fun n => ?_
  rw [State.lane_congr lanes, State.reset_lane]
  exact ⟨rfl, rfl⟩

theorem PlansMeet.enterStopping : PlansMeet P s.enterStopping := by
  obtain ⟨-, -, lanes, -⟩ := s.enterStopping_frame
  refine .of_none fun n => ?_
  rw [lanes]
  exact ⟨rfl, rfl⟩

/-- After a command the lanes hold the plans they held, and the one it brings: those that leave the lanes alone, then each of the others. -/
theorem PlansMeet.exec (h : PlansMeet P s) (c : Instr) (brought : ∀ n p, Brings c s n p → P n p) : Answers (PlansMeet P) (exec c s) := by
  cases moves : Instr.movesReception c
  · exact (exec_reception moves s).imp fun t same => h.congr same
  cases c
  case symbolReport => exact h.execSymbolReport _ _ _ _
  case surveyReport => exact h.execSurveyReport _ _
  case seekTimerExpiry => exact h.execSeekTimerExpiry
  case surveyIntervalExpiry => exact h.execSurveyIntervalExpiry
  case applyWindowExpiry => exact h.execApplyWindowExpiry
  case packetGate => exact h.execPacketGate _ _ _ _
  case stationBlockReadComplete => exact h.execStationBlockReadComplete _
  case laneSlotReadComplete => exact h.execLaneSlotReadComplete _ brought
  case statusRecordWriteComplete => exact h.execStatusRecordWriteComplete _
  case impulseEvent m magnitude =>
    dsimp only [Machine.exec, execImpulseEvent]
    split
    · refine answers_next.2 fun n => ?_
      rw [State.impulse_lane]
      exact (h n).congr rfl rfl
    · exact answers_next.2 h
  case runSet =>
    dsimp only [Machine.exec, execRunSet]
    split
    · exact answers_next.2 (PlansMeet.settle (h.of_lanes rfl))
    all_goals exact answers_next.2 (h.of_lanes rfl)
  case runClear =>
    dsimp only [Machine.exec, execRunClear]
    split
    · exact answers_next.2 (h.of_lanes rfl)
    · exact answers_next.2 (h.of_lanes rfl)
    · exact answers_next.2 PlansMeet.enterStopping.settle
    all_goals exact answers_next.2 (h.of_lanes rfl)
  case softReset => exact answers_next.2 (.of_reset_lanes rfl)
  case powerOnReset => exact answers_next.2 (.of_reset_lanes rfl)
  case stationTimerTick => exact answers_next.2 (h.of_lanes rfl)
  all_goals cases moves

/-- What a step does to the plans held: it brings none, or one to one lane, and then that lane's slot was read and its plan accepted. -/
theorem step_holds (stepped : step s = .next t) :
    (∀ n p, t.holds n p → s.holds n p) ∨
    ∃ n p slot tag mask, s.checkPlan n (hostHalf slot) = .accept (.tune tag p mask) ∧
      ∀ m q, t.holds m q → s.holds m q ∨ m = n ∧ q = p := by
  unfold Machine.step at stepped
  split at stepped
  · cases stepped
    exact .inl fun n p holds => holds
  rename_i c rest _
  by_cases brings : ∃ n p, Brings c { s with pending := rest } n p
  · obtain ⟨n, p, slot, x, tag, mask, rfl, port, kind, accepts⟩ := brings
    refine .inr ⟨n, p, slot, tag, mask, accepts, plansMeet_iff.1 (PlansMeet.exec (plansMeet_iff.2 fun m q holds => .inl holds) _ ?_ t stepped)⟩
    rintro m q ⟨slot', x', tag', mask', same, port', kind', accepts'⟩
    cases same
    cases port.symm.trans port'
    cases kind.symm.trans kind'
    cases accepts.symm.trans accepts'
    exact .inr ⟨rfl, rfl⟩
  · refine .inl (plansMeet_iff.1 (PlansMeet.exec (s := { s with pending := rest }) (plansMeet_iff.2 fun m q holds => holds) c ?_ t stepped))
    exact fun n p brought => absurd ⟨n, p, brought⟩ brings

/-! ### The invariants (R51, R98, R99) -/

theorem plansInRange_iff : PlansInRange s ↔ ∀ n p, s.holds n p → p.inRange := by
  rw [← plansMeet_iff (P := fun _ p => p.inRange)]
  exact ⟨fun h n => ⟨(h n).1, (h n).2⟩, fun h n => ⟨(h n).applied, (h n).pending⟩⟩

theorem PlansInRange.step (h : PlansInRange s) (stepped : step s = .next t) : PlansInRange t := by
  rw [plansInRange_iff] at h ⊢
  rcases step_holds stepped with none | ⟨n, p, slot, tag, mask, accepts, one⟩
  · exact fun m q holds => h m q (none m q holds)
  · obtain ⟨⟨mode, rfl⟩, bandwidth, inside, -⟩ := State.checkPlan_tune accepts
    intro m q holds
    rcases one m q holds with before | ⟨rfl, rfl⟩
    · exact h m q before
    · exact SlotHostHalf.clamped_inRange mode bandwidth inside

/-- The plan accepted overlaps no channel that another lane holds (R98, check 5). -/
theorem State.checkPlan_apart {h : SlotHostHalf} {tag : Tag} {mask : BitVec 16} (accepts : s.checkPlan n h = .accept (.tune tag p mask))
    {m : LaneId} {q : TunePlan} (other : m ≠ n) (holds : s.holds m q) : ¬ChannelsOverlap p.centre p.bandwidth q.centre q.bandwidth := by
  obtain ⟨⟨mode, rfl⟩, -, -, apart⟩ := State.checkPlan_tune accepts
  exact fun overlap => Bool.eq_false_iff.1 apart (State.overlapsOthers_iff.2 ⟨m, q, other, holds, overlap⟩)

theorem ChannelsApart.step (h : ChannelsApart s) (stepped : step s = .next t) : ChannelsApart t := by
  rcases step_holds stepped with none | ⟨k, p, slot, tag, mask, accepts, one⟩
  · exact fun m n other q r holdsM holdsN => h m n other q r (none m q holdsM) (none n r holdsN)
  intro m n other q r holdsM holdsN
  rcases one m q holdsM, one n r holdsN with ⟨beforeM | ⟨rfl, rfl⟩, beforeN | ⟨rfl, rfl⟩⟩
  · exact h m n other q r beforeM beforeN
  · exact fun overlap => State.checkPlan_apart accepts other beforeM overlap.symm
  · exact State.checkPlan_apart accepts other.symm beforeN
  · exact absurd rfl other

end

/-- Settles O33: the invariants by what a step does to the plans held (`step_holds`), the overlap rule, and the clamps field by field. -/
theorem plansKeptInRange : Obligations.PlansKeptInRange := by
  refine ⟨fun s t h stepped => h.step stepped, fun s t h stepped => h.step stepped, fun s n centre bandwidth => State.overlapsOthers_iff, ?_⟩
  rintro h mode p rfl
  have lock : clampLock h.lockThreshold = max 1 (min 127 h.lockThreshold) := clamp_eq 1 127 _ (by decide)
  have positive : 1 ≤ clampLock h.lockThreshold := lock ▸ le_max_left _ _
  refine ⟨rfl, rfl, rfl, rfl, mastPolicyOf_eq h.mastCode, lock, (clampUnlock_eq positive _).trans (by rw [lock]),
    clamp_eq 1 63 _ (by decide), clamp_eq 1 63 _ (by decide), clamp_eq 1 63 _ (by decide), clamp_eq 1 6 _ (by decide),
    (clamp_eq 0 15 _ (by decide)).trans (Nat.zero_max _), clamp_eq 1 31 _ (by decide), clamp_of_le (by decide), clamp_of_le (by decide),
    clamp_of_le (by decide), clamp_of_le (by decide), fun i place => h.adjustedMask_getLsbD _ place⟩

end Sys2Proof.Machine
end

section
namespace Sys2Proof.Machine

/-! PROOFS. Lane timers and apply points (spec/04, 05): the seek timer (R63), the survey-interval timer with the Survey Unit's answers to a new
request (R64, R76, R77), the takes at the three apply points (R105 to R110). -/

section
variable {s : State} {n : LaneId} {p : TunePlan}

theorem MastPolicy.isAuto_iff {policy : MastPolicy} : policy.isAuto = true ↔ policy = .autoA ∨ policy = .autoB := by
  cases policy <;> simp [MastPolicy.isAuto]

/-! ### Seek timer expiry (R63) -/

/-- Raising a cause that has just been raised sends no message and changes nothing (R176, R177). -/
theorem State.raise_raise (s : State) (c : Cause) : (s.raise c).raise c = s.raise c := by
  simp [State.raise, State.setNotices, BitVec.or_assoc]

theorem State.raiseIf_raiseIf (s : State) (a b : Bool) (c : Cause) : (s.raiseIf a c).raiseIf b c = s.raiseIf (a || b) c := by
  cases a <;> cases b
  · rfl
  · rfl
  · rfl
  · exact s.raise_raise c

theorem State.withdrawRequest_nothing (without : s.hasRequest n = false) : s.withdrawRequest n = s := by
  simp [State.withdrawRequest, without]

theorem execSeekTimerExpiry_expires (seeking : (s.lane n).phase = .seek ∨ (s.lane n).phase = .track)
    (applied : (s.lane n).applied = some p) (due : (s.lane n).seekTimer = some s.time) :
    exec (.seekTimerExpiry n) s = .next (s.seekCycle n p).settle := by
  have expires : expiresAt (s.lane n).seekTimer s.time = true := expiresAt_iff.2 due
  rcases seeking with phase | phase <;> simp only [exec, execSeekTimerExpiry, expires, if_true, phase, applied]

/-- Settles O21: SEEK is entered from the lane with its cycle counted and its mast toggled; no request is there to withdraw. -/
theorem seekTimerExpiryReentersSeek : Obligations.SeekTimerExpiryReentersSeek := by
  intro s n p seeking applied due without
  refine .of_settle ((execSeekTimerExpiry_expires seeking applied due).trans ?_)
  rw [State.seekCycle, State.modLane, State.setLane_enterSeek, State.afterSeekEntry, State.withdrawRequest_nothing (by exact without),
    State.raiseIf_raiseIf]
  simp only [Lane.afterSeekEntry, MastPolicy.isAuto_iff]

/-! ### A settled Survey Unit (R80, R86) -/

/-- A Survey Unit with nothing left to do does nothing. -/
theorem SurveySettled.surveySettle_eq (h : SurveySettled s) : s.surveySettle = s := by
  obtain ⟨idle, running⟩ := h
  obtain ⟨chooses, looks⟩ := s.surveySettle_acts
  cases dwell : s.survey.dwell with
  | none =>
    refine (chooses dwell _ rfl).1 ?_
    have nobody : (s.survey.queue.filter fun r => (s.lane r.lane).switchOrder.isNone) = [] :=
      List.filter_eq_nil_iff.2 fun r waits => by simp [Option.isSome_iff_ne_none.1 (idle dwell r waits)]
    rw [nobody, chooseRequest_nil]
  | some d =>
    refine (looks d dwell).2 fun ⟨lock, r, waits, fade, other, eligible⟩ => ?_
    have ordered := running d dwell lock r waits fade other
    rw [eligible] at ordered
    cases ordered

theorem chooseRequest_single (order : SurveyOrder) (r : SurveyRequest) : chooseRequest order [r] = some r := by
  obtain ⟨lane, cls⟩ := r
  cases order <;> cases cls <;> rfl

/-- The part with the survey queue replaced. -/
def State.withQueue (s : State) (queue : List SurveyRequest) : State :=
  { s with survey := { s.survey with queue := queue } }

/-- A queue in which a dwell stays and no request can be served keeps the Survey Unit settled. -/
theorem SurveySettled.withQueue {queue : List SurveyRequest} (h : SurveySettled s)
    (idle : s.survey.dwell = none → ∀ r ∈ queue, r ∈ s.survey.queue ∨ (s.lane r.lane).switchOrder.isSome = true)
    (running : ∀ d, s.survey.dwell = some d → d.cls = .lock → ∀ r ∈ queue, r.cls = .fade →
      r ∈ s.survey.queue ∨ (s.lane r.lane).switchOrder.isSome = true) : SurveySettled (s.withQueue queue) := by
  refine ⟨fun none r waits => ?_, fun d dwell lock r waits fade other => ?_⟩
  · exact (idle none r waits).elim (h.1 none r) id
  · exact (running d dwell lock r waits fade).elim (fun before => h.2 d dwell lock r before fade other) id

/-- The only eligible request is served at once when no dwell runs (R80, R82). -/
theorem SurveySettled.serves (h : SurveySettled s) (idle : s.survey.dwell = none) (free : (s.lane n).switchOrder = none)
    (applied : (s.lane n).applied = some p) (cls : SurveyClass) :
    (s.withQueue (s.survey.queue ++ [{ lane := n, cls := cls }])).surveySettle =
      { s with survey := s.survey.serving s.survey.queue n cls p (opposite (s.lane n).activeMast) } := by
  have ordered : ∀ r ∈ s.survey.queue, ¬ (s.lane r.lane).switchOrder.isNone = true := fun r waits => by
    simp [Option.isSome_iff_ne_none.1 (h.1 idle r waits)]
  have single : ((s.survey.queue ++ [({ lane := n, cls := cls } : SurveyRequest)]).filter fun r =>
      (s.lane r.lane).switchOrder.isNone) = [{ lane := n, cls := cls }] := by
    rw [List.filter_append, List.filter_eq_nil_iff.2 ordered]
    simp [free]
  have absent : ({ lane := n, cls := cls } : SurveyRequest) ∉ s.survey.queue := fun waits => ordered _ waits (by simp [free])
  have served := ((State.surveySettle_acts (s.withQueue (s.survey.queue ++ [{ lane := n, cls := cls }]))).1 idle _ rfl).2
    { lane := n, cls := cls } p ((congrArg _ single).trans (chooseRequest_single _ _)) applied
  refine served.trans ?_
  have back : (s.survey.queue ++ [({ lane := n, cls := cls } : SurveyRequest)]).erase { lane := n, cls := cls } = s.survey.queue := by
    rw [List.erase_append_right _ absent, List.erase_cons_head, List.append_nil]
  simp only [State.withQueue, back]
  rfl

/-! ### Survey-interval timer expiry (R64) -/

/-- The part with lane n's survey-interval timer stopped. -/
def State.stopSurveyTimer (s : State) (n : LaneId) : State :=
  s.setLane n { s.lane n with surveyTimer := none }

theorem SurveySettled.stopSurveyTimer (h : SurveySettled s) (n : LaneId) : SurveySettled (s.stopSurveyTimer n) :=
  h.setLane fun _ => rfl

theorem execSurveyIntervalExpiry_files (delivers : (s.lane n).phase = .lock ∨ (s.lane n).phase = .fade)
    (applied : (s.lane n).applied = some p) (auto : p.mastPolicy.isAuto = true) (due : (s.lane n).surveyTimer = some s.time)
    (without : s.hasRequest n = false) :
    exec (.surveyIntervalExpiry n) s =
      .next ((s.stopSurveyTimer n).withQueue (s.survey.queue ++ [{ lane := n, cls := .lock }])).surveySettle := by
  simp only [exec, execSurveyIntervalExpiry]
  rw [if_pos (expiresAt_iff.2 due), if_pos (by simp [LanePhase.delivers_iff.2 delivers, applied, auto, without])]
  rfl

theorem execSurveyIntervalExpiry_pending (due : (s.lane n).surveyTimer = some s.time) (pending : s.hasRequest n = true) :
    exec (.surveyIntervalExpiry n) s = .next (s.stopSurveyTimer n) := by
  simp only [exec, execSurveyIntervalExpiry]
  rw [if_pos (expiresAt_iff.2 due), if_neg (by simp [pending])]
  rfl

/-! ### An entry-to-FADE request (R77, R86, R87) -/

/-- The survey queue with lane n's request in it as a FADE-class one: upgraded where it stands, or filed at the tail (R77). -/
def fadeFiled (queue : List SurveyRequest) (n : LaneId) : List SurveyRequest :=
  if n ∈ queue.map SurveyRequest.lane then queue.map fun r => if r.lane = n then { r with cls := .fade } else r
  else queue ++ [{ lane := n, cls := .fade }]

/-- In that queue lane n's request is FADE-class, and the other lanes' requests are those that waited. -/
theorem mem_fadeFiled {queue : List SurveyRequest} {r : SurveyRequest} :
    r ∈ fadeFiled queue n ↔ r = { lane := n, cls := .fade } ∨ r ∈ queue ∧ r.lane ≠ n := by
  unfold fadeFiled
  split
  · rename_i waits
    obtain ⟨q, first, rfl⟩ := List.mem_map.1 waits
    rw [List.mem_map]
    constructor
    · rintro ⟨o, queued, rfl⟩
      split
      · rename_i own
        exact .inl (by rw [← own])
      · exact .inr ⟨queued, ‹_›⟩
    · rintro (rfl | ⟨queued, other⟩)
      · exact ⟨q, first, by simp⟩
      · exact ⟨r, queued, if_neg other⟩
  · rename_i absent
    rw [List.mem_append, List.mem_singleton, or_comm]
    exact or_congr_right ⟨fun queued => ⟨queued, fun own => absent (List.mem_map.2 ⟨r, queued, own⟩)⟩, And.left⟩

/-- The lanes that wait are those that waited, and lane n. -/
theorem fadeFiled_nodup {queue : List SurveyRequest} (single : (queue.map SurveyRequest.lane).Nodup) :
    ((fadeFiled queue n).map SurveyRequest.lane).Nodup := by
  unfold fadeFiled
  split
  · have same : (queue.map fun r => if r.lane = n then { r with cls := .fade } else r).map SurveyRequest.lane =
        queue.map SurveyRequest.lane := by
      rw [List.map_map]
      refine List.map_congr_left fun r _ => ?_
      simp only [Function.comp]
      split <;> rfl
    rwa [same]
  · rename_i absent
    rw [List.map_append]
    exact single.append (List.nodup_singleton n) (by simpa using absent)

/-- In a queue in which no lane waits twice, a request leaves as its lane does. -/
theorem erase_eq_filter_lane {queue : List SurveyRequest} {r : SurveyRequest} (single : (queue.map SurveyRequest.lane).Nodup)
    (waits : r ∈ queue) : queue.erase r = queue.filter fun q => q.lane != r.lane := by
  rw [single.of_map.erase_eq_filter]
  refine List.filter_congr fun q queued => ?_
  rw [Bool.eq_iff_iff, bne_iff_ne, bne_iff_ne]
  exact not_congr ⟨congrArg SurveyRequest.lane, List.inj_on_of_nodup_map single queued waits⟩

/-- A request that meets no dwell of its lane stands in the queue, and the Survey Unit looks at it. -/
theorem State.fadeRequest_queued (other : ∀ d, s.survey.dwell = some d → d.lane ≠ n) :
    s.fadeRequest n = (s.withQueue (fadeFiled s.survey.queue n)).surveySettle := by
  have queued : s.hasRequest n = true ↔ n ∈ s.survey.queue.map SurveyRequest.lane := by
    rw [State.hasRequest_iff, State.surveyed, List.mem_append]
    refine or_iff_left fun own => ?_
    obtain ⟨d, running, rfl⟩ := Option.map_eq_some_iff.1 (Option.mem_toList.1 own)
    exact other d running rfl
  have dwell : s.survey.dwell.map (Dwell.upgrade n) = s.survey.dwell := by
    cases running : s.survey.dwell with
    | none => rfl
    | some d => simp [Dwell.upgrade, other d running]
  rw [State.fadeRequest_eq, fadeFiled]
  by_cases waits : n ∈ s.survey.queue.map SurveyRequest.lane
  · rw [if_pos (queued.2 waits), if_pos waits]
    simp only [State.upgradeRequest, dwell, State.withQueue, beq_iff_eq]
  · rw [if_neg (mt queued.1 waits), if_neg waits]
    rfl

/-- The lane's own dwell becomes FADE-class, and nothing preempts it (R77, R87). -/
theorem State.fadeRequest_own {d : Dwell} (single : s.surveyed.Nodup) (running : s.survey.dwell = some d) (own : d.lane = n) :
    s.fadeRequest n = { s with survey := { s.survey with dwell := some { d with cls := .fade } } } := by
  have pending : s.hasRequest n = true := (s.hasRequest_iff n).2 ((s.mem_surveyed n).2 (.inr ⟨d, running, own⟩))
  have absent : ∀ r ∈ s.survey.queue, r.lane ≠ n := fun r waits same => by
    rw [State.surveyed, running] at single
    exact List.disjoint_of_nodup_append single (List.mem_map.2 ⟨r, waits, same⟩) (by simp [own])
  have queue : (s.survey.queue.map fun r => if r.lane == n then { r with cls := .fade } else r) = s.survey.queue :=
    (List.map_congr_left fun r waits => by simp [absent r waits]).trans (List.map_id _)
  have upgraded : s.upgradeRequest n = { s with survey := { s.survey with dwell := some { d with cls := .fade } } } := by
    simp only [State.upgradeRequest, queue, running, Option.map_some, Dwell.upgrade, own, beq_self_eq_true, if_true]
  have settled : SurveySettled { s with survey := { s.survey with dwell := some { d with cls := .fade } } } :=
    ⟨nofun, fun e same lock => by cases same; cases lock⟩
  rw [State.fadeRequest_eq, if_pos pending, upgraded, settled.surveySettle_eq]

/-- The request waits: a FADE-class dwell runs, or the lane has a waiting switch order (R80, R87). -/
theorem SurveySettled.fadeRequest_waits (h : SurveySettled s) (other : ∀ d, s.survey.dwell = some d → d.lane ≠ n)
    (waits : (∃ d, s.survey.dwell = some d ∧ d.cls = .fade) ∨ (s.lane n).switchOrder.isSome = true) :
    s.fadeRequest n = s.withQueue (fadeFiled s.survey.queue n) := by
  have ordered : (s.lane n).switchOrder.isSome = true → ∀ r ∈ fadeFiled s.survey.queue n,
      r ∈ s.survey.queue ∨ (s.lane r.lane).switchOrder.isSome = true := fun order r filed => by
    rcases mem_fadeFiled.1 filed with rfl | ⟨queued, -⟩
    · exact .inr order
    · exact .inl queued
  rw [State.fadeRequest_queued other]
  refine SurveySettled.surveySettle_eq (h.withQueue (fun idle => ?_) fun d running lock r filed _ => ?_)
  · refine ordered (waits.resolve_left fun ⟨d, running, _⟩ => ?_)
    rw [idle] at running
    cases running
  · refine ordered (waits.resolve_left fun ⟨e, same, fade⟩ => ?_) r filed
    cases running.symm.trans same
    cases lock.symm.trans fade

/-- Another lane's LOCK-class dwell is preempted: its request goes back to the head and lane n's dwell starts (R86). -/
theorem SurveySettled.fadeRequest_preempts {d : Dwell} (h : SurveySettled s) (single : s.surveyed.Nodup)
    (running : s.survey.dwell = some d) (other : d.lane ≠ n) (lock : d.cls = .lock) (free : (s.lane n).switchOrder = none)
    (applied : (s.lane n).applied = some p) :
    s.fadeRequest n = { s with
      survey := s.survey.serving ({ lane := d.lane, cls := .lock } :: (fadeFiled s.survey.queue n).filter fun r => r.lane != n) n .fade p
        (opposite (s.lane n).activeMast) } := by
  rw [State.surveyed, running] at single
  obtain ⟨queued, -, apart⟩ := List.nodup_append.1 single
  have filed : ({ lane := n, cls := .fade } : SurveyRequest) ∈ fadeFiled s.survey.queue n := mem_fadeFiled.2 (.inl rfl)
  have preempts : (s.withQueue (fadeFiled s.survey.queue n)).preempts d := ⟨lock, _, filed, rfl, other.symm, free⟩
  have meets : ∀ e, s.survey.dwell = some e → e.lane ≠ n := fun e same => by
    cases running.symm.trans same
    exact other
  rw [State.fadeRequest_queued meets]
  generalize chosen : chooseRequest s.station.surveyOrder
    ((({ lane := d.lane, cls := .lock } : SurveyRequest) :: fadeFiled s.survey.queue n).filter fun r =>
      (s.lane r.lane).switchOrder.isNone) = choice
  obtain ⟨-, serves⟩ := ((s.withQueue (fadeFiled s.survey.queue n)).surveySettle_acts.2 d running).1 preempts choice chosen.symm
  have eligible : ({ lane := n, cls := .fade } : SurveyRequest) ∈
      ((({ lane := d.lane, cls := .lock } : SurveyRequest) :: fadeFiled s.survey.queue n).filter
        fun r => (s.lane r.lane).switchOrder.isNone) :=
    List.mem_filter.2 ⟨List.mem_cons_of_mem _ filed, by simp [free]⟩
  have own : choice = some { lane := n, cls := .fade } := by
    cases choice with
    | none =>
      rw [chooseRequest_eq_none chosen] at eligible
      cases eligible
    | some r =>
      obtain ⟨waits, fadeFirst⟩ := chooseRequest_some chosen
      obtain ⟨waits, noOrder⟩ := List.mem_filter.1 waits
      have fade : r.cls = .fade := by
        cases cls : r.cls with
        | fade => rfl
        | lock => cases fadeFirst cls _ eligible
      rcases List.mem_cons.1 waits with rfl | waits
      · cases fade
      rcases mem_fadeFiled.1 waits with rfl | ⟨before, -⟩
      · rfl
      · have foreign : r.lane ≠ d.lane := fun same => apart r.lane (List.mem_map.2 ⟨r, before, rfl⟩) d.lane (by simp) same
        have ordered := h.2 d running lock r before fade foreign
        rw [Option.isNone_iff_eq_none.1 noOrder] at ordered
        cases ordered
  refine (serves _ p own applied).trans ?_
  have queue : (({ lane := d.lane, cls := .lock } : SurveyRequest) :: fadeFiled s.survey.queue n).erase { lane := n, cls := .fade } =
      { lane := d.lane, cls := .lock } :: (fadeFiled s.survey.queue n).filter fun r => r.lane != n := by
    rw [List.erase_cons_tail (by simp), erase_eq_filter_lane (fadeFiled_nodup queued) filed]
  simp only [State.withQueue, queue]
  rfl

/-- With no dwell running and no switch order of its lane, the request is served at once (R80, R82). -/
theorem SurveySettled.fadeRequest_serves (h : SurveySettled s) (idle : s.survey.dwell = none) (free : (s.lane n).switchOrder = none)
    (applied : (s.lane n).applied = some p) :
    s.fadeRequest n = { s with survey := s.survey.serving s.survey.queue n .fade p (opposite (s.lane n).activeMast) } := by
  have absent : n ∉ s.survey.queue.map SurveyRequest.lane := fun waits => by
    obtain ⟨r, queued, rfl⟩ := List.mem_map.1 waits
    have ordered := h.1 idle r queued
    rw [free] at ordered
    cases ordered
  rw [State.fadeRequest_queued (by simp [idle]), fadeFiled, if_neg absent]
  exact h.serves idle free applied .fade

/-- Settles O22: the request filed waits or is served at once; an entry-to-FADE request by what it meets. -/
theorem surveyIntervalExpiryFilesRequest : Obligations.SurveyIntervalExpiryFilesRequest := by
  refine ⟨fun s n p delivers applied auto due without settled => ?_,
    fun s n due pending => execSurveyIntervalExpiry_pending due pending, ?_⟩
  · have stopped := settled.stopSurveyTimer n
    have files := execSurveyIntervalExpiry_files delivers applied (MastPolicy.isAuto_iff.2 auto) due without
    have own : (s.stopSurveyTimer n).lane n = { s.lane n with surveyTimer := none } := s.setLane_lane_self n _
    refine ⟨fun waits => files.trans (congrArg _ (SurveySettled.surveySettle_eq ?_)), fun idle free => files.trans (congrArg _ ?_)⟩
    · refine stopped.withQueue (fun idle r filed => ?_) fun d running lock r filed fade => ?_
      · have order := waits.resolve_left (by rw [show s.survey.dwell = none from idle]; exact nofun)
        rcases List.mem_append.1 filed with before | new
        · exact .inl before
        · cases List.mem_singleton.1 new
          exact .inr (by rw [own]; exact order)
      · rcases List.mem_append.1 filed with before | new
        · exact .inl before
        · cases List.mem_singleton.1 new
          cases fade
    · have served := stopped.serves (p := p) idle (by rw [own]; exact free) (by rw [own]; exact applied) .lock
      rw [own] at served
      exact served
  · rintro s n p filed applied settled single rfl
    refine ⟨fun d running own => State.fadeRequest_own single running own,
      fun d running other waits => settled.fadeRequest_waits (fun e same => ?_) (waits.imp_left fun fade => ⟨d, running, fade⟩),
      fun d running other lock free => settled.fadeRequest_preempts single running other lock free applied,
      fun idle order => settled.fadeRequest_waits (fun d running => ?_) (.inr order),
      fun idle free => settled.fadeRequest_serves idle free applied⟩
    · cases running.symm.trans same
      exact other
    · rw [idle] at running
      cases running

end

end Sys2Proof.Machine
end

section
namespace Sys2Proof.Machine

section
variable {s t v : State} {n : LaneId} {l l' : Lane} {p : TunePlan} {plan : AcceptedPlan}

/-! ### What the Survey Unit sees of a lane -/

/-- What the Survey Unit looks at in a lane: its switch order, its applied plan, its active mast (R80, R82). -/
def Lane.surveyView (l : Lane) : Option Nat × Option TunePlan × Mast :=
  (l.switchOrder, l.applied, l.activeMast)

/-- A lane replaced by one of the same view. -/
theorem State.setLane_surveyView (same : l.surveyView = (s.lane n).surveyView) (m : LaneId) :
    ((s.setLane n l).lane m).switchOrder = (s.lane m).switchOrder ∧ ((s.setLane n l).lane m).applied = (s.lane m).applied ∧
      ((s.setLane n l).lane m).activeMast = (s.lane m).activeMast := by
  obtain ⟨order, applied, mast⟩ : l.switchOrder = _ ∧ l.applied = _ ∧ l.activeMast = _ := by
    simpa only [Lane.surveyView, Prod.mk.injEq] using same
  rw [State.setLane_lane]
  split
  · rename_i own
    exact own ▸ ⟨order, applied, mast⟩
  · exact ⟨rfl, rfl, rfl⟩

theorem State.eligible_setLane (same : l.surveyView = (s.lane n).surveyView) : (s.setLane n l).eligible = s.eligible := by
  funext r
  obtain ⟨order, -, -⟩ := State.setLane_surveyView same r.lane
  rw [State.eligible, State.eligible, order]

theorem State.startDwell_setLane (same : l.surveyView = (s.lane n).surveyView) (r : SurveyRequest) :
    (s.setLane n l).startDwell r = (s.startDwell r).setLane n l := by
  obtain ⟨-, applied, mast⟩ := State.setLane_surveyView same r.lane
  unfold State.startDwell
  rw [applied, mast]
  cases (s.lane r.lane).applied <;> rfl

theorem State.preempt_setLane (same : l.surveyView = (s.lane n).surveyView) : (s.setLane n l).preempt = s.preempt.setLane n l := by
  unfold State.preempt
  rw [State.eligible_setLane same, State.setLane_survey]
  cases s.survey.dwell with
  | none => rfl
  | some d =>
    simp only
    split <;> rfl

theorem State.chooseSurvey_setLane (same : l.surveyView = (s.lane n).surveyView) :
    (s.setLane n l).chooseSurvey = s.chooseSurvey.setLane n l := by
  unfold State.chooseSurvey
  rw [State.eligible_setLane same, State.setLane_survey, State.setLane_station]
  cases s.survey.dwell with
  | some d => rfl
  | none =>
    cases chooseRequest s.station.surveyOrder (s.survey.queue.filter s.eligible) with
    | none => rfl
    | some r => exact State.startDwell_setLane same r

theorem State.preempt_lane (s : State) (m : LaneId) : s.preempt.lane m = s.lane m := by
  have h := congrArg (fun t : State => t.lane m) s.preempt_frame
  exact h

theorem State.surveySettle_setLane (same : l.surveyView = (s.lane n).surveyView) :
    (s.setLane n l).surveySettle = s.surveySettle.setLane n l := by
  rw [State.surveySettle, State.preempt_setLane same, State.chooseSurvey_setLane (by rw [State.preempt_lane]; exact same)]
  rfl

theorem State.dropRequest_setLane (s : State) (n m : LaneId) (l : Lane) :
    (s.setLane n l).dropRequest m = (s.dropRequest m).setLane n l := by
  unfold State.dropRequest
  simp only [State.setLane_survey]
  cases s.survey.dwell with
  | none => rfl
  | some d =>
    simp only
    split <;> rfl

theorem State.dropRequest_lane (s : State) (n m : LaneId) : (s.dropRequest n).lane m = s.lane m := by
  have h := congrArg (fun t : State => t.lane m) (s.dropRequest_frame n)
  exact h

/-- A withdrawal and a change of the lane that the Survey Unit does not see commute (R78). -/
theorem State.withdrawRequest_setLane (same : l.surveyView = (s.lane n).surveyView) :
    (s.setLane n l).withdrawRequest n = (s.withdrawRequest n).setLane n l := by
  unfold State.withdrawRequest
  have pending : (s.setLane n l).hasRequest n = s.hasRequest n := rfl
  rw [pending, State.dropRequest_setLane]
  split
  · exact State.surveySettle_setLane (by rw [State.dropRequest_lane]; exact same)
  · rfl

/-! ### The end of a take (R108) -/

theorem State.raiseIf_finishTake (s : State) (b : Bool) (c : Cause) (tag : Tag) (adjusted : BitVec 16) :
    (s.raiseIf b c).finishTake n tag adjusted = (s.finishTake n tag adjusted).raiseIf b c := by
  cases b <;> rfl

/-- The record asked for at an entry is the one that the take asks for. -/
theorem State.oweLane_finishTake (s : State) (tag : Tag) (adjusted : BitVec 16) :
    (s.oweLane n).finishTake n tag adjusted = s.finishTake n tag adjusted := by
  simp only [State.finishTake, State.answerTaken, State.modLane, State.setLane, State.setAnswer, State.oweLane, State.lane, State.answer,
    Vector.set_set]

/-- A take forgets the apply window: a lane that differs in it alone ends the same (R108). -/
theorem State.setLane_finishTake (same : ∀ tag, l'.taken tag = l.taken tag) (tag : Tag) (adjusted : BitVec 16) :
    (s.setLane n l').finishTake n tag adjusted = (s.setLane n l).finishTake n tag adjusted := by
  have taken : (s.setLane n l').modLane n (·.taken tag) = (s.setLane n l).modLane n (·.taken tag) := by
    rw [State.setLane_modLane, State.setLane_modLane, same]
  exact congrArg (fun u : State => (u.answerTaken n tag adjusted).oweLane n) taken

theorem State.withdrawn_finishTake (same : ∀ tag, l'.taken tag = l.taken tag) (view : l'.surveyView = l.surveyView) (tag : Tag)
    (adjusted : BitVec 16) : ((s.setLane n l').withdrawRequest n).finishTake n tag adjusted =
      ((s.setLane n l).withdrawRequest n).finishTake n tag adjusted := by
  have replaced : (s.setLane n l').withdrawRequest n = ((s.setLane n l).withdrawRequest n).setLane n l' := by
    rw [← State.withdrawRequest_setLane (by rw [State.setLane_lane_self]; exact view), State.setLane_setLane]
  have kept : ((s.setLane n l).withdrawRequest n).setLane n l = (s.setLane n l).withdrawRequest n := by
    rw [← State.withdrawRequest_setLane (by rw [State.setLane_lane_self]), State.setLane_setLane]
  rw [replaced, State.setLane_finishTake same, kept]

theorem State.withdrawRequest_answer (s : State) (n m : LaneId) : (s.withdrawRequest n).answer m = s.answer m := by
  have h := congrArg (fun t : State => t.answer m) (s.withdrawRequest_frame n)
  exact h

/-- A lane's answer with the TAKEN image formed at a take (R108, step 4). -/
def SlotAnswer.taken (a : SlotAnswer) (tag : Tag) (adjusted : BitVec 16) (now : Time) : SlotAnswer :=
  { a with
    image := { mark := .taken, appliedTag := tag, reason := .none, adjusted := adjusted, timeAtTake := now }
    owed := true }

theorem State.afterTake_eq (s : State) (n : LaneId) (tag : Tag) (adjusted : BitVec 16) :
    s.afterTake n tag adjusted =
      ((s.setLane n ((s.lane n).taken tag)).setAnswer n ((s.answer n).taken tag adjusted s.time)).oweLane n := rfl

/-- A retune that is a take, with the notice raised last (R54, R55, R108). -/
theorem State.afterRetune_afterTake (s : State) (n : LaneId) (p : TunePlan) (tag : Tag) (adjusted : BitVec 16)
    (entered : l = Lane.afterSeekEntry { s.lane n with applied := some p, activeMast := p.mastPolicy.start } p s.time) :
    (s.afterRetune n p).afterTake n tag adjusted =
      (((((s.setLane n l).withdrawRequest n).setLane n (l.taken tag)).setAnswer n ((s.answer n).taken tag adjusted s.time)).oweLane
        n).raiseIf p.notify.state .lane := by
  rw [State.afterRetune, State.afterSeekEntry, ← entered, ← State.finishTake_eq, State.raiseIf_finishTake, State.oweLane_finishTake,
    State.finishTake_eq, State.afterTake_eq, State.withdrawRequest_lane, State.withdrawRequest_answer, State.withdrawRequest_time,
    State.setLane_lane_self]
  rfl

/-! ### Apply window expiry (R106) -/

/-- Lane n with its apply window closed. -/
def State.closeWindow (s : State) (n : LaneId) : State :=
  s.setLane n { s.lane n with applyWindow := none }

@[simp] theorem State.closeWindow_lane (s : State) (n : LaneId) : (s.closeWindow n).lane n = { s.lane n with applyWindow := none } :=
  s.setLane_lane_self n _

theorem State.closeWindow_setLane (s : State) (n : LaneId) (l : Lane) : (s.closeWindow n).setLane n l = s.setLane n l :=
  s.setLane_setLane n _ l

/-- Closing the window before a take makes no difference to it: the take closes it (R106, R108). -/
theorem State.takePlan_closeWindow (holds : (s.lane n).phase = .off ∨ (s.lane n).applied.isSome = true) (plan : AcceptedPlan) :
    (s.closeWindow n).takePlan n plan = s.takePlan n plan := by
  cases plan with
  | stop tag notify =>
    simp only [State.takePlan, State.applyStop_eq, State.afterStop, State.closeWindow_setLane, State.raiseIf_finishTake, State.closeWindow_lane]
    have withdrawn := State.withdrawn_finishTake (s := s) (n := n) (l' := ({ s.lane n with applyWindow := none } : Lane).afterStop s.time)
      (l := (s.lane n).afterStop s.time) (fun _ => rfl) rfl tag 0
    exact congrArg (fun u : State => State.raiseIf { u with survey := { u.survey with lastMean := u.survey.lastMean.set n none } }
      (decide ((s.lane n).phase ≠ .off) && notify.state) .lane) withdrawn
  | tune tag p adjusted =>
    have retuned : ((s.closeWindow n).applyRetune n p).finishTake n tag adjusted = (s.applyRetune n p).finishTake n tag adjusted := by
      simp only [State.applyRetune_eq, State.afterRetune, State.afterSeekEntry, State.closeWindow_setLane, State.raiseIf_finishTake,
        State.oweLane_finishTake, State.closeWindow_lane]
      exact congrArg (fun u : State => u.raiseIf p.notify.state .lane) (State.withdrawn_finishTake (fun _ => by rfl) (by rfl) tag adjusted)
    have updated : ((s.closeWindow n).applyUpdate n p).finishTake n tag adjusted = (s.applyUpdate n p).finishTake n tag adjusted := by
      simp only [State.applyUpdate_eq, State.afterUpdate, State.closeWindow_setLane, State.closeWindow_lane]
      split
      · exact State.setLane_finishTake (fun _ => by rfl) tag adjusted
      · exact State.withdrawn_finishTake (fun _ => by rfl) (by rfl) tag adjusted
    have phase : ((s.closeWindow n).lane n).phase = (s.lane n).phase := by rw [State.closeWindow_lane]
    by_cases off : (s.lane n).phase = .off
    · rw [State.takePlan, State.takePlan, State.applyTune_off off, State.applyTune_off (phase.trans off), retuned]
    obtain ⟨old, applied⟩ := Option.isSome_iff_exists.1 (holds.resolve_left off)
    rw [State.takePlan, State.takePlan, State.applyTune_on off applied,
      State.applyTune_on (phase ▸ off) (by rw [State.closeWindow_lane]; exact applied), State.closeWindow_lane]
    change State.finishTake (if isRetune s.station.modes (s.lane n).activeMast old p = true then _ else _) n tag adjusted = _
    split
    · exact retuned
    · exact updated

theorem execApplyWindowExpiry_takes (holds : (s.lane n).phase = .off ∨ (s.lane n).applied.isSome = true)
    (due : (s.lane n).applyWindow = some s.time) (pending : (s.lane n).pendingPlan = some plan) :
    exec (.applyWindowExpiry n) s = .next (s.takePlan n plan).settle := by
  have held : ((s.closeWindow n).lane n).pendingPlan = some plan := by rw [State.closeWindow_lane]; exact pending
  have taken : (s.closeWindow n).takePending n = s.takePlan n plan := by
    rw [State.takePending, held]
    exact State.takePlan_closeWindow holds plan
  simp only [exec, execApplyWindowExpiry]
  rw [if_pos (expiresAt_iff.2 due), ← taken]
  rfl

/-- The pending plan is taken by R110's table, in any lane state. -/
theorem Takes.gives_applyWindow (takes : Takes s n plan t) (holds : (s.lane n).phase = .off ∨ (s.lane n).applied.isSome = true)
    (due : (s.lane n).applyWindow = some s.time) (pending : (s.lane n).pendingPlan = some plan) : Gives (.applyWindowExpiry n) s t :=
  .of_settle (takes.eq_takePlan holds ▸ execApplyWindowExpiry_takes holds due pending)

theorem State.takePlan_retune {old : TunePlan} {tag : Tag} {mask : BitVec 16} (on : (s.lane n).phase ≠ .off)
    (applied : (s.lane n).applied = some old) (retune : isRetune s.station.modes (s.lane n).activeMast old p = true) :
    s.takePlan n (.tune tag p mask) = (s.afterRetune n p).afterTake n tag mask := by
  rw [State.takePlan, State.applyTune_on on applied, if_pos retune, State.applyRetune_eq, State.finishTake_eq]

theorem LanePhase.delivering_ne_off {phase : LanePhase} (delivers : phase = .lock ∨ phase = .fade) : phase ≠ .off := by
  rcases delivers with same | same <;> rw [same] <;> exact nofun

/-- A retune at the window's expiry: the entry to SEEK starts from a lane whose window is closed (R54, R55, R106). -/
theorem Gives.applyWindow_retune {old : TunePlan} {tag : Tag} {mask : BitVec 16} (delivers : (s.lane n).phase = .lock ∨ (s.lane n).phase = .fade)
    (applied : (s.lane n).applied = some old) (due : (s.lane n).applyWindow = some s.time)
    (pending : (s.lane n).pendingPlan = some (.tune tag p mask)) (retune : isRetune s.station.modes (s.lane n).activeMast old p = true)
    (entered : l = Lane.afterSeekEntry { s.lane n with applied := some p, activeMast := p.mastPolicy.start, applyWindow := none } p s.time) :
    Gives (.applyWindowExpiry n) s
      ((((((s.setLane n l).withdrawRequest n).setLane n { l with appliedTag := tag, pendingPlan := none }).setAnswer n
        ((s.answer n).taken tag mask s.time)).oweLane n).raiseIf p.notify.state .lane) := by
  have holds : (s.lane n).phase = .off ∨ (s.lane n).applied.isSome = true := .inr (by rw [applied]; rfl)
  have closed := s.closeWindow_lane n
  have starts : l = Lane.afterSeekEntry { (s.closeWindow n).lane n with applied := some p, activeMast := p.mastPolicy.start } p
      (s.closeWindow n).time := by
    rw [closed]
    exact entered
  have retuned := State.takePlan_retune (s := s.closeWindow n) (tag := tag) (mask := mask)
    (by rw [closed]; exact LanePhase.delivering_ne_off delivers) (by rw [closed]; exact applied) (by rw [closed]; exact retune)
  rw [State.takePlan_closeWindow holds, State.afterRetune_afterTake _ n p tag mask starts, State.closeWindow_setLane] at retuned
  have taken : l.taken tag = { l with appliedTag := tag, pendingPlan := none } := by
    rw [entered]
    rfl
  rw [taken] at retuned
  exact .of_settle (retuned ▸ execApplyWindowExpiry_takes holds due pending)

/-- A TUNE of the same channel and mode policy under an AUTO policy is no retune (R109). -/
theorem isRetune_same {modes : ModeTable} {active : Mast} {old : TunePlan} (auto : p.mastPolicy = .autoA ∨ p.mastPolicy = .autoB)
    (centre : p.centre = old.centre) (bandwidth : p.bandwidth = old.bandwidth) (mode : p.modePolicy = old.modePolicy) :
    isRetune modes active old p = false := by
  simp [isRetune, centre, bandwidth, mode, MastPolicy.isAuto_iff.2 auto]

/-- A parameter update under an AUTO policy changes the lane alone (R66), and the take its answer (R108). -/
theorem State.afterUpdate_afterTake (delivers : (s.lane n).phase = .lock ∨ (s.lane n).phase = .fade)
    (auto : p.mastPolicy = .autoA ∨ p.mastPolicy = .autoB) (tag : Tag) (mask : BitVec 16) :
    (s.afterUpdate n p).afterTake n tag mask = ((s.setLane n { s.lane n with
      applied := some p
      appliedTag := tag
      pendingPlan := none
      applyWindow := none
      lockIn := 0
      fadeRun := 0
      recoverRun := 0
      surveyTimer := some (s.time + BitVec.ofNat 48 (p.surveyInterval * 1000000)) }).setAnswer n
        ((s.answer n).taken tag mask s.time)).oweLane n := by
  have auto := MastPolicy.isAuto_iff.2 auto
  simp only [State.afterUpdate, Lane.afterUpdate, auto, delivers, and_self, if_true, State.afterTake_eq, State.setLane_lane_self,
    State.setLane_setLane, Lane.taken]
  rfl

/-! ### A take in the other apply points (R105, R107) -/

@[simp] theorem Lane.taken_switchOrder (l : Lane) (tag : Tag) : (l.taken tag).switchOrder = l.switchOrder := rfl

/-- A take hands out no switch order and leaves no plan pending (R92, R108). -/
theorem State.takePlan_leaves (noOrder : (s.lane n).switchOrder = none) (plan : AcceptedPlan) :
    ((s.takePlan n plan).lane n).switchOrder = none ∧ ((s.takePlan n plan).lane n).pendingPlan = none := by
  cases plan with
  | stop tag notify =>
    rw [State.takePlan, State.finishTake_lane, State.applyStop_eq, State.afterStop_lane]
    exact ⟨rfl, rfl⟩
  | tune tag p mask =>
    rw [State.takePlan, State.finishTake_lane]
    refine ⟨?_, rfl⟩
    rcases s.applyTune_cases n p with same | ⟨-, -, -, same⟩ <;> rw [same, Lane.taken_switchOrder]
    · rw [State.applyRetune_eq, State.afterRetune_lane]
      rfl
    · rw [State.applyUpdate_lane, Lane.update, noOrder, ite_self]

/-- Leaving for SEEK takes the plan that waits, after the entry (R107); neither a plan nor a switch order is left. -/
theorem Takes.leaveForSeek (takes : Takes (s.afterSeekEntry n l p) n plan t) (applied : l.applied = some p)
    (pending : l.pendingPlan = some plan) :
    (s.setLane n l).leaveForSeek n p = t ∧ (t.lane n).switchOrder = none ∧ (t.lane n).pendingPlan = none := by
  have entered : (s.afterSeekEntry n l p).lane n = l.afterSeekEntry p s.time := s.afterSeekEntry_lane n l p
  have same := takes.eq_takePlan (.inr (by rw [entered]; simp [Lane.afterSeekEntry, applied]))
  have held : ((s.afterSeekEntry n l p).lane n).pendingPlan = some plan := by rw [entered]; exact pending
  refine ⟨?_, same ▸ State.takePlan_leaves (by rw [entered]; rfl) plan⟩
  rw [State.leaveForSeek, State.setLane_enterSeek, State.takePending, held, same]

section
variable {period : Fin 16384} {signal error : BitVec 16} {frame : Bool}

/-- A report in LOCK or FADE by which the lane leaves for SEEK ends with the take of the plan that waits (R107). -/
theorem Takes.gives_leave {v : ReportVerdict} (takes : Takes (s.afterSeekEntry n l p) n plan t)
    (delivers : (s.lane n).phase = .lock ∨ (s.lane n).phase = .fade) (applied : (s.lane n).applied = some p)
    (hears : (s.lane n).hear s.station p { period := period.val, signal := signal, error := error, frameStart := frame } = (l', v))
    (acts : (s.setLane n l').actOnReport n p v = (s.setLane n l).leaveForSeek n p) (kept : l.applied = some p)
    (pending : l.pendingPlan = some plan) : Gives (.symbolReport n period signal error frame) s t := by
  obtain ⟨left, noOrder, noPlan⟩ := takes.leaveForSeek kept pending
  exact Gives.symbolReport (LanePhase.delivering_ne_off delivers) applied hears (acts.trans left) (.inr noPlan) (.inl noOrder)

/-- At a mode loss (R62, R107). -/
theorem TakenReport.gives_lossTake {c : EntryId} {e : ModeEntry} {hits : Nat} (taken : TakenReport s n p hits)
    (delivers : (s.lane n).phase = .lock ∨ (s.lane n).phase = .fade) (known : (s.lane n).recognizer.recognised = some c)
    (usable : s.station.modes[c] = some e) (outside : e.contains period.val = false)
    (reached : e.missCount ≤ (s.lane n).recognizer.lossCount + 1) (pending : (s.lane n).pendingPlan = some plan)
    (takes : Takes (s.afterSeekEntry n (s.lane n) p) n plan t) : Gives (.symbolReport n period signal error frame) s t := by
  have recognised : (s.lane n).phase.recognised = true := by
    rcases delivers with phase | phase <;> rw [phase] <;> rfl
  have hears := taken.hear_loss (r := { period := period.val, signal := signal, error := error, frameStart := frame }) recognised
    (Recognizer.check_loses known usable outside reached)
  exact Takes.gives_leave (l := { (s.lane n).afterTaken hits with
    recognizer := { (s.lane n).recognizer with lossCount := (s.lane n).recognizer.lossCount + 1 } })
    takes delivers taken.applied hears rfl taken.applied pending

/-- At the hold limit, on a used report that does not recover (R61, R107). -/
theorem UsedReport.gives_limitTake {u : UsedSample} (used : UsedReport s n p period signal error u) (fade : (s.lane n).phase = .fade)
    (limit : p.holdLimit ≤ (s.lane n).hold + 1)
    (short : (if p.lockThreshold ≤ u.qi then (s.lane n).recoverRun + 1 else 0) < p.recoverCount)
    (pending : (s.lane n).pendingPlan = some plan) (takes : Takes (s.afterSeekEntry n ((s.lane n).afterUsed u) p) n plan t) :
    Gives (.symbolReport n period signal error frame) s t := by
  generalize counts : (if p.lockThreshold ≤ u.qi then (s.lane n).recoverRun + 1 else 0) = run at short
  refine Takes.gives_leave (l := { (s.lane n).afterUsed u with recoverRun := run, hold := (s.lane n).hold + 1 })
    takes (.inr fade) used.applied (used.hear (by simp [fade, LanePhase.recognised]) frame) ?_ used.applied pending
  rw [State.setLane_act_fade (l := (s.lane n).afterUsed u) fade, State.setLane_actFade_used (l := (s.lane n).afterUsed u) counts.symm,
    if_neg (Nat.not_le.2 short), Lane.afterUsed_hold, if_pos limit]

/-- At the hold limit, on an excused report (R61, R107). -/
theorem ExcusedReport.gives_limitTake (excused : ExcusedReport s n p) (fade : (s.lane n).phase = .fade)
    (limit : p.holdLimit ≤ (s.lane n).hold + 1) (pending : (s.lane n).pendingPlan = some plan)
    (takes : Takes (s.afterSeekEntry n (s.lane n).afterExcused p) n plan t) : Gives (.symbolReport n period signal error frame) s t := by
  have counted : (s.lane n).afterExcused = { (s.lane n).passedOver with hold := (s.lane n).hold + 1 } := by
    simp only [Lane.afterExcused, Lane.passedOver, fade, if_true]
  have reached : p.holdLimit ≤ (s.lane n).passedOver.hold + 1 := limit
  rw [counted] at takes
  refine takes.gives_leave (.inr fade) excused.applied (excused.hear _) ?_ excused.applied pending
  rw [State.setLane_act_fade (l := (s.lane n).passedOver) fade, State.setLane_actFade_unused, if_pos reached]
  rfl

/-- At a frame-start report that leaves the lane in LOCK or FADE (R105). -/
theorem ReportStays.gives_take (stays : ReportStays s n p period signal error v) (pending : (s.lane n).pendingPlan = some plan)
    (noOrder : (s.lane n).switchOrder = none) (takes : Takes v n plan t) : Gives (.symbolReport n period signal error true) s t := by
  obtain ⟨same, taken⟩ := stays.exec_takes pending takes
  obtain ⟨noOrder, -⟩ := State.takePlan_leaves (s := v) (n := n) (stays.stillDelivers.switchOrder.trans noOrder) plan
  exact .of_settle (taken.trans (by rw [State.switchAtSymbolEnd_nothing (.inl (same ▸ noOrder))]))

end

/-! ### An applied STOP, field by field (R67) -/

/-- A take touches, beside its lane, the lane's answer and the record asked for alone. -/
theorem State.finishTake_frame (s : State) (n : LaneId) (tag : Tag) (adjusted : BitVec 16) :
    (∀ m, m ≠ n → (s.finishTake n tag adjusted).lane m = s.lane m) ∧
      (s.finishTake n tag adjusted).answer n = (s.answer n).taken tag adjusted s.time := by
  refine ⟨fun m other => s.modLane_lane_ne (·.taken tag) other.symm, ?_⟩
  rw [State.finishTake_eq, State.afterTake_eq]
  exact State.setAnswer_answer_self _ n _

theorem State.raiseIf_answer (s : State) (b : Bool) (c : Cause) (m : LaneId) : (s.raiseIf b c).answer m = s.answer m := by
  cases b <;> rfl

/-- What a STOP taken outside OFF leaves (R67, R108). -/
theorem State.takePlan_stop (on : (s.lane n).phase ≠ .off) (tag : Tag) (notify : NotifyFlags) (taken : t = s.takePlan n (.stop tag notify)) :
    t.lane n = { Lane.reset with appliedTag := tag, activeMast := (s.lane n).activeMast, lastChange := s.time } ∧
    (∀ m, m ≠ n → t.lane m = s.lane m) ∧ t.survey.lastMean[n] = none ∧ t.answer n = (s.answer n).taken tag 0 s.time ∧
    t.streams = s.streams ∧ t.router = s.router ∧ t.station = s.station := by
  rw [State.takePlan, State.applyStop_eq, State.afterStop, State.raiseIf_finishTake] at taken
  generalize stopped : (s.setLane n ((s.lane n).afterStop s.time)).withdrawRequest n = w at taken
  have lane (m : LaneId) : w.lane m = if n = m then (s.lane n).afterStop s.time else s.lane m := by
    rw [← stopped, State.withdrawRequest_lane, State.setLane_lane]
  obtain ⟨others, answer⟩ :=
    State.finishTake_frame { w with survey := { w.survey with lastMean := w.survey.lastMean.set n none } } n tag 0
  subst taken
  refine ⟨?_, fun m other => ?_, ?_, ?_, ?_, ?_, ?_⟩
  · rw [State.raiseIf_lane, State.finishTake_lane]
    refine (congrArg (Lane.taken · tag) ((lane n).trans (if_pos rfl))).trans ?_
    simp only [Lane.taken, Lane.afterStop, Lane.reset, if_neg on]
  · rw [State.raiseIf_lane, others m other]
    exact (lane m).trans (if_neg other.symm)
  · rw [State.raiseIf_survey]
    exact Vector.getElem_set_self n.isLt
  · rw [State.raiseIf_answer, answer, ← stopped]
    refine congrArg₂ (fun a now => SlotAnswer.taken a tag 0 now) (State.withdrawRequest_answer _ n n) (State.withdrawRequest_time _ n)
  · rw [State.raiseIf_streams, ← stopped]
    exact State.withdrawRequest_streams _ n
  · rw [State.raiseIf_router, ← stopped]
    exact State.withdrawRequest_router _ n
  · rw [State.raiseIf_station, ← stopped]
    exact State.withdrawRequest_station _ n

theorem State.settle_answer (s : State) (m : LaneId) : s.settle.answer m = s.answer m := by
  rcases s.takeStatusNow_cases with same | ⟨-, -, -, same⟩ <;> rw [State.settle, same] <;> rfl

/-- Settles O23: at the window's expiry the take itself (`execApplyWindowExpiry_takes`), at a frame-start report the take after its effects, at
a mode loss and at the hold limit the take after the entry to SEEK (`Takes.gives_leave`). -/
theorem applyWindowExpiryTakesPlan : Obligations.ApplyWindowExpiryTakesPlan := by
  refine ⟨fun s n old delivers applied due => ⟨fun tag flags pending => ?_, fun tag p mask pending auto centre bandwidth mode => ?_⟩,
    fun s n old tag p mask l delivers applied due pending retune entered =>
      Gives.applyWindow_retune delivers applied due pending retune entered,
    fun s t n plan holds due pending takes => takes.gives_applyWindow holds due pending,
    fun s v t n old plan period signal error stays pending noOrder takes => stays.gives_take pending noOrder takes,
    fun s t n old plan c e period signal error frame hits delivers taken known usable outside reached pending takes =>
      taken.gives_lossTake delivers known usable outside reached pending takes,
    fun s t n old plan period signal error frame l fade pending limit reports takes => ?_⟩
  · obtain ⟨lane, others, mean, answer, streams, router, station⟩ :=
      State.takePlan_stop (LanePhase.delivering_ne_off delivers) tag flags rfl
    refine ⟨_, execApplyWindowExpiry_takes (.inr (by rw [applied]; rfl)) due pending, ?_⟩
    rw [State.settle_answer, answer]
    simp only [State.settle_lane, State.settle_survey, State.settle_streams, State.settle_router, State.settle_station]
    exact ⟨lane, others, mean, rfl, rfl, streams, router, station⟩
  · have takes : Takes s n (.tune tag p mask) ((s.afterUpdate n p).afterTake n tag mask) := by
      refine ⟨fun off => absurd off (LanePhase.delivering_ne_off delivers), fun other _ same => ⟨fun retunes => ?_, fun _ => rfl⟩⟩
      cases applied.symm.trans same
      rw [isRetune_same auto centre bandwidth mode] at retunes
      cases retunes
    rw [State.afterUpdate_afterTake delivers auto] at takes
    exact takes.gives_applyWindow (.inr (by rw [applied]; rfl)) due pending
  · rcases reports with ⟨u, used, rfl, short⟩ | ⟨excused, rfl⟩
    · exact used.gives_limitTake fade limit short pending takes
    · exact excused.gives_limitTake fade limit pending takes

end

end Sys2Proof.Machine
end

section
namespace Sys2Proof.Machine

/-! PROOFS. A Lane Slot is read (spec/06): the examination case by case (R95 to R103), the host half of the slot (R93). -/

section
variable {s : State} {t : Transfer} {n : LaneId} {p : TunePlan} {plan : AcceptedPlan} {slot : Vector Byte 64}

/-! ### The examination of a Lane Slot (R95) -/

/-- Nothing is answered outside RUNNING, for an EMPTY slot, or for a tag already answered (R95, R97). -/
theorem State.examineSlot_passes (passed : s.link.device ≠ .running ∨ (hostHalf slot).staged = false ∨
    (s.answer n).lastAnswered = some (hostHalf slot).tag) : s.examineSlot n slot = s := by
  unfold State.examineSlot
  simp only
  split
  · rfl
  split
  · rfl
  split
  · rfl
  rename_i running staged fresh
  rcases passed with device | empty | answered
  · exact absurd device running
  · simp [empty] at staged
  · exact absurd answered fresh

/-- The slot holds a plan to be checked: the part is in RUNNING, the slot is STAGED and its tag is not the one last answered (R95). -/
structure State.Stages (s : State) (n : LaneId) (slot : Vector Byte 64) : Prop where
  running : s.link.device = .running
  staged : (hostHalf slot).staged = true
  fresh : (s.answer n).lastAnswered ≠ some (hostHalf slot).tag

theorem State.Stages.refuses {reason : RefusalReason} (stages : s.Stages n slot) (refuse : s.checkPlan n (hostHalf slot) = .refuse reason) :
    s.examineSlot n slot = s.refusePlan n (hostHalf slot).tag reason := by
  simp only [State.examineSlot, stages.running, ne_eq, not_true_eq_false, if_false, stages.staged, Bool.not_true, Bool.false_eq_true,
    stages.fresh, refuse]

theorem State.Stages.accepts (stages : s.Stages n slot) (accept : s.checkPlan n (hostHalf slot) = .accept plan) :
    s.examineSlot n slot = s.acceptPlan n (hostHalf slot).tag plan := by
  simp only [State.examineSlot, stages.running, ne_eq, not_true_eq_false, if_false, stages.staged, Bool.not_true, Bool.false_eq_true,
    stages.fresh, accept]

/-- The part with the tag answered. -/
def State.answerTag (s : State) (n : LaneId) (tag : Tag) : State :=
  s.setAnswer n { s.answer n with lastAnswered := some tag }

theorem State.acceptPlan_takes (quiet : (s.lane n).phase.delivers = false) (tag : Tag) (plan : AcceptedPlan) :
    s.acceptPlan n tag plan = (s.answerTag n tag).takePlan n plan := by
  simp only [State.acceptPlan, quiet, Bool.false_eq_true, if_false]
  rfl

theorem State.setAnswer_setAnswer (s : State) (n : LaneId) (a b : SlotAnswer) : (s.setAnswer n a).setAnswer n b = s.setAnswer n b := by
  simp only [State.setAnswer, Vector.set_set]

/-- The part with a plan pending for lane n in a fresh window, and one that it supersedes counted (R102, R103). -/
def State.pend (s : State) (n : LaneId) (plan : AcceptedPlan) : State :=
  { s.setLane n { s.lane n with pendingPlan := some plan, applyWindow := some (s.time + 250000#48) } with
    fetcher := { s.fetcher with
      superseded := if (s.lane n).pendingPlan.isSome then satInc s.fetcher.superseded else s.fetcher.superseded } }

theorem State.holdPlan_eq (s : State) (n : LaneId) (plan : AcceptedPlan) :
    s.holdPlan n plan = (s.pend n plan).setAnswer n
      { s.answer n with
        image := { mark := .accepted, appliedTag := (s.lane n).appliedTag, reason := .none, adjusted := plan.adjustedMask,
                   timeAtTake := (s.answer n).image.timeAtTake }
        owed := true } := rfl

theorem State.answerTag_pend (s : State) (n : LaneId) (tag : Tag) (plan : AcceptedPlan) :
    (s.answerTag n tag).pend n plan = (s.pend n plan).setAnswer n { s.answer n with lastAnswered := some tag } := rfl

theorem State.answerTag_answer (s : State) (n : LaneId) (tag : Tag) :
    (s.answerTag n tag).answer n = { s.answer n with lastAnswered := some tag } :=
  State.setAnswer_answer_self s n _

/-- In LOCK and FADE an accepted plan becomes the pending one, and ACCEPTED is owed (R102, R103). -/
theorem State.acceptPlan_holds (delivers : (s.lane n).phase.delivers = true) (tag : Tag) (plan : AcceptedPlan) :
    s.acceptPlan n tag plan = (s.pend n plan).setAnswer n
      { lastAnswered := some tag
        image := { mark := .accepted, appliedTag := (s.lane n).appliedTag, reason := .none, adjusted := plan.adjustedMask,
                   timeAtTake := (s.answer n).image.timeAtTake }
        owed := true } := by
  have accepted : s.acceptPlan n tag plan = (s.answerTag n tag).holdPlan n plan := by
    simp only [State.acceptPlan, delivers, if_true]
    rfl
  rw [accepted, State.holdPlan_eq, State.answerTag_pend, State.setAnswer_setAnswer, State.answerTag_answer]
  rfl

/-! ### The completion of the read (R95, R97, R164) -/

/-- The part once the read has ended and the item is no more in hand (R97, R158). -/
def State.slotRead (s : State) : State :=
  s.freePort.dropItem

theorem execLaneSlotRead_eq (carries : s.carries t (.laneSlotRead n)) :
    (∀ slot, exec (.laneSlotReadComplete (.data slot)) s = .next (s.slotRead.examineSlot n slot).settle) ∧
      exec (.laneSlotReadComplete .error) s = .next (s.freePort.linkError .readError .planFetcher t.address).dropItem.settle := by
  obtain ⟨port, kind, owned⟩ := carries
  constructor <;> simp [exec, execLaneSlotReadComplete, State.endRead, port, kind, owned, State.slotRead]

theorem State.slotRead_checkPlan (s : State) (n : LaneId) (h : SlotHostHalf) : s.slotRead.checkPlan n h = s.checkPlan n h :=
  State.checkPlan_congr rfl rfl n h

/-- A slot that brings no plan to be checked ends the item alone. -/
theorem Gives.slotPassed (carries : s.carries t (.laneSlotRead n)) (passed : s.link.device ≠ .running ∨ (hostHalf slot).staged = false ∨
    (s.answer n).lastAnswered = some (hostHalf slot).tag) : Gives (.laneSlotReadComplete (.data slot)) s s.slotRead := by
  refine .of_settle (((execLaneSlotRead_eq carries).1 slot).trans ?_)
  rw [State.examineSlot_passes (by exact passed)]

/-- A plan that the checks refuse (R100). -/
theorem State.Stages.gives_refusal {reason : RefusalReason} (stages : s.Stages n slot) (carries : s.carries t (.laneSlotRead n))
    (refuse : s.checkPlan n (hostHalf slot) = .refuse reason) :
    Gives (.laneSlotReadComplete (.data slot)) s (s.slotRead.refusePlan n (hostHalf slot).tag reason) := by
  have read : s.slotRead.Stages n slot := ⟨stages.running, stages.staged, stages.fresh⟩
  refine .of_settle (((execLaneSlotRead_eq carries).1 slot).trans ?_)
  rw [read.refuses ((s.slotRead_checkPlan n _).trans refuse)]

/-- A plan that the checks accept (R102). -/
theorem State.Stages.gives_acceptance (stages : s.Stages n slot) (carries : s.carries t (.laneSlotRead n))
    (accept : s.checkPlan n (hostHalf slot) = .accept plan) :
    Gives (.laneSlotReadComplete (.data slot)) s (s.slotRead.acceptPlan n (hostHalf slot).tag plan) := by
  have read : s.slotRead.Stages n slot := ⟨stages.running, stages.staged, stages.fresh⟩
  refine .of_settle (((execLaneSlotRead_eq carries).1 slot).trans ?_)
  rw [read.accepts ((s.slotRead_checkPlan n _).trans accept)]

/-- Outside LOCK and FADE it is taken at once (R102, R110). -/
theorem State.Stages.gives_take {u : State} (stages : s.Stages n slot) (carries : s.carries t (.laneSlotRead n))
    (accept : s.checkPlan n (hostHalf slot) = .accept plan)
    (phase : (s.lane n).phase = .off ∨ ((s.lane n).phase = .seek ∨ (s.lane n).phase = .track) ∧ (s.lane n).applied.isSome = true)
    (takes : Takes (s.slotRead.answerTag n (hostHalf slot).tag) n plan u) : Gives (.laneSlotReadComplete (.data slot)) s u := by
  have quiet : (s.slotRead.lane n).phase.delivers = false := by
    change (s.lane n).phase.delivers = false
    rcases phase with off | ⟨seek | track, -⟩ <;> simp [*, LanePhase.delivers]
  rw [takes.eq_takePlan (phase.imp_right And.right), ← State.acceptPlan_takes quiet]
  exact stages.gives_acceptance carries accept

/-- A TUNE taken in OFF, when the lane has no survey request (R55, R108). -/
theorem Takes.of_off {l : Lane} (off : (s.lane n).phase = .off) (without : s.hasRequest n = false) (tag : Tag) (mask : BitVec 16)
    (entered : l = Lane.afterSeekEntry { s.lane n with applied := some p, activeMast := p.mastPolicy.start } p s.time) :
    Takes s n (.tune tag p mask)
      ((((s.setLane n (l.taken tag)).setAnswer n ((s.answer n).taken tag mask s.time)).oweLane n).raiseIf p.notify.state .lane) := by
  refine ⟨fun _ => ?_, fun old on => absurd off on⟩
  rw [State.afterRetune_afterTake s n p tag mask entered, State.withdrawRequest_nothing (by exact without), State.setLane_setLane]

/-- A tag answered and then TAKEN is one answer of the lane. -/
theorem State.answerTag_taken (s : State) (n : LaneId) (l : Lane) (answered tag : Tag) (mask : BitVec 16) (now : Time) :
    ((s.answerTag n answered).setLane n l).setAnswer n (((s.answerTag n answered).answer n).taken tag mask now) =
      (s.setLane n l).setAnswer n
        { lastAnswered := some answered
          image := { mark := .taken, appliedTag := tag, reason := .none, adjusted := mask, timeAtTake := now }
          owed := true } := by
  have apart : (s.answerTag n answered).setLane n l = (s.setLane n l).setAnswer n { s.answer n with lastAnswered := some answered } := rfl
  rw [apart, State.setAnswer_setAnswer, State.answerTag_answer]
  rfl

/-! ### The host half, field by field (R93, R180) -/

theorem actionOf_iff (code : Nat) : (actionOf code = some .tune ↔ code = 1) ∧ (actionOf code = some .stop ↔ code = 2) := by
  unfold actionOf
  split <;> simp_all

theorem modePolicyOf_auto (code : Nat) : modePolicyOf code = some .auto ↔ code = 0 := by
  unfold modePolicyOf
  split
  · simp [*]
  split <;> simp [*]

theorem modePolicyOf_fixed (code : Nat) (e : EntryId) : modePolicyOf code = some (.fixed e) ↔ code = 0x80 + e.val := by
  have bound := e.isLt
  unfold modePolicyOf
  split
  · simp only [Option.some.injEq, reduceCtorEq, false_iff]
    omega
  split
  · simp only [Option.some.injEq, ModePolicy.fixed.injEq, Fin.ext_iff]
    omega
  · simp only [reduceCtorEq, false_iff]
    omega

theorem byteAt_toNat_eq (slot : Vector Byte 64) (offset : Nat) (k : Nat) (small : k < 256) :
    (byteAt slot offset).toNat = k ↔ byteAt slot offset = BitVec.ofNat 8 k := by
  rw [← BitVec.toNat_inj, BitVec.toNat_ofNat, Nat.mod_eq_of_lt small]

/-- A two-byte field fits a sequence tag. -/
theorem field_two_lt {k : Nat} (r : Vector Byte k) (offset : Nat) : field r offset 2 < 2 ^ 16 := by
  unfold field
  generalize r.toList.drop offset = bytes
  match bytes with
  | [] => simp [leValue]
  | [b] =>
    have := b.isLt
    simp only [leValue]
    omega
  | b :: c :: _ =>
    have := b.isLt
    have := c.isLt
    simp only [leValue]
    omega

/-- The host half is the slot's fields, each a byte or a two-byte or four-byte field (R93, spec/11). -/
theorem hostHalf_fields (slot : Vector Byte 64) :
    ((hostHalf slot).staged = true ↔ byteAt slot 0x00 = 1#8) ∧ ((hostHalf slot).action = some .tune ↔ byteAt slot 0x01 = 1#8) ∧
      ((hostHalf slot).action = some .stop ↔ byteAt slot 0x01 = 2#8) ∧ (hostHalf slot).tag.toNat = field slot 0x02 2 := by
  have byte (offset : Nat) (inside : offset < 64) := field_one_eq_byteAt slot offset inside
  simp only [hostHalf, byte 0 (by decide), byte 1 (by decide), beq_iff_eq, actionOf_iff]
  refine ⟨byteAt_toNat_eq slot 0 1 (by decide), byteAt_toNat_eq slot 1 1 (by decide), byteAt_toNat_eq slot 1 2 (by decide), ?_⟩
  rw [BitVec.toNat_ofNat, Nat.mod_eq_of_lt (field_two_lt slot 2)]

end

/-- Settles O31: the completion by what the slot brings, then the host half and the mode policy code. -/
theorem laneSlotReadAnswers : Obligations.LaneSlotReadAnswers := by
  refine ⟨fun s t n slot carries running => ⟨fun passed => Gives.slotPassed carries (.inr passed), fun reason staged fresh refuse => ?_,
      fun plan staged fresh accept delivers => ?_, fun tag p mask staged fresh accept off without => ?_,
      .of_settle (execLaneSlotRead_eq carries).2⟩,
    fun s u t n slot plan carries running staged fresh accept phase takes =>
      State.Stages.gives_take ⟨running, staged, fresh⟩ carries accept phase takes,
    fun s t n slot carries device => Gives.slotPassed carries (.inl device), ?_,
    fun code => ⟨modePolicyOf_auto code, modePolicyOf_fixed code⟩⟩
  · exact State.Stages.gives_refusal ⟨running, staged, fresh⟩ carries refuse
  · have accepted := State.Stages.gives_acceptance ⟨running, staged, fresh⟩ carries accept
    rw [State.acceptPlan_holds (s := s.slotRead) (LanePhase.delivers_iff.2 delivers)] at accepted
    exact accepted
  · have takes := Takes.of_off (s := s.slotRead.answerTag n (hostHalf slot).tag) (n := n) (p := p) off without tag mask rfl
    rw [State.answerTag_taken] at takes
    exact State.Stages.gives_take ⟨running, staged, fresh⟩ carries accept (.inl off) takes
  · rintro slot h rfl
    obtain ⟨staged, tune, stop, tag⟩ := hostHalf_fields slot
    have byte (offset : Nat) (inside : offset < 64) := field_one_eq_byteAt slot offset inside
    exact ⟨staged, tune, stop, tag, rfl, byte _ (by decide), byte _ (by decide), byte _ (by decide), byte _ (by decide), byte _ (by decide),
      byte _ (by decide), byte _ (by decide), byte _ (by decide), rfl, byte _ (by decide), byte _ (by decide), byte _ (by decide),
      byte _ (by decide), byte _ (by decide), byte _ (by decide), rfl, rfl, rfl⟩

end Sys2Proof.Machine
end

section
namespace Sys2Proof.Machine

/-! PROOFS. RUN writes (spec/10): what a request CLOSE does to a stream (R149, R150), the entry to STOPPING part by part (R68, R114, R135, R156,
R171), the writes by device state (R169). -/

/-! ### A request CLOSE in OPEN and STARVED (R149, R150) -/

section
variable {w : StreamWriter}

/-- A CLOSING stream with something left to write, or without its buffer in hand, goes on (R149). -/
theorem StreamWriter.drain_waits (busy : w.position ≠ .holding ∨ w.fifo ≠ [] ∨ w.inFlight.isSome = true) : w.drain = w := by
  unfold StreamWriter.drain
  rw [if_neg]
  simp only [Bool.and_eq_true, beq_iff_eq, List.isEmpty_iff, Option.isNone_iff_eq_none]
  rintro ⟨⟨⟨⟨-, holding⟩, empty⟩, landed⟩, -⟩
  rcases busy with position | fifo | flies
  · exact position holding
  · exact fifo empty
  · simp [landed] at flies

/-- One with nothing left to write ends its buffer (R145, R150). -/
theorem StreamWriter.drain_ends {b : HeldBuffer} (closing : w.phase = .closing) (holding : w.position = .holding) (empty : w.fifo = [])
    (landed : w.inFlight = none) (free : w.job = .none) (current : w.current = some b) :
    w.drain = if b.filled = 0 then { w with job := .emptyMark b.address } else w.afterCloseBegun b b.filled b.stamp .close := by
  have starved : ¬ (w.phase == .starved) = true := by simp [closing]
  unfold StreamWriter.drain
  rw [if_pos (by simp [closing, holding, empty, landed, free]), current]
  simp only [StreamWriter.beginClose, if_neg starved]
  rfl

theorem StreamWriter.drain_keeps (w : StreamWriter) : w.drain.phase = w.phase ∧ w.drain.owed = w.owed := by
  unfold StreamWriter.drain
  split
  · split
    · exact ⟨rfl, rfl⟩
    · split <;> exact ⟨rfl, rfl⟩
  · exact ⟨rfl, rfl⟩

theorem StreamWriter.requestClose_opened (opened : w.phase = .opened) (head : Addr) : TakesClose w head (w.requestClose head) := by
  have closes : w.requestClose head = (w.enter .closing).drain := by
    unfold StreamWriter.requestClose
    rw [opened]
  rw [closes]
  refine ⟨?_, ?_, fun _ busy => StreamWriter.drain_waits (w := w.enter .closing) busy,
    fun b _ holding empty landed free current => StreamWriter.drain_ends (w := w.enter .closing) rfl holding empty landed free current,
    ?_, ?_, ?_, ?_⟩
  all_goals simp [opened]

theorem StreamWriter.closeStarved_checking (checks : w.job ≠ .none) (head : Addr) :
    w.closeStarved head = { w with phase := .closing, owed := true, position := w.closingPosition, recheck := none } := by
  unfold StreamWriter.closeStarved
  rw [if_pos (by simpa using checks)]
  rfl

theorem StreamWriter.closeStarved_empty (free : w.job = .none) (empty : w.fifo = []) (head : Addr) :
    w.closeStarved head = w.afterClosedEntry := by
  unfold StreamWriter.closeStarved
  rw [if_neg (by simp [free]), if_pos (by simp [empty])]
  rfl

theorem StreamWriter.requestClose_starved (starved : w.phase = .starved) (head : Addr) : TakesClose w head (w.requestClose head) := by
  have closes : w.requestClose head = w.closeStarved head := by
    unfold StreamWriter.requestClose
    rw [starved]
  have drains (free : w.job = .none) (waiting : w.fifo ≠ []) : ¬ (w.job != .none) = true ∧ ¬ w.fifo.isEmpty = true :=
    ⟨by simp [free], by simpa using waiting⟩
  rw [closes]
  refine ⟨?_, ?_, ?_, ?_, fun _ free empty => StreamWriter.closeStarved_empty free empty head, fun a _ free waiting position => ?_,
    fun _ free waiting position head => ?_, fun position _ checks => ?_⟩
  case refine_5 =>
    obtain ⟨idle, queued⟩ := drains free waiting
    unfold StreamWriter.closeStarved
    rw [if_neg idle, if_neg queued]
    rcases position with position | ⟨position, rfl, some⟩ <;> rw [position]
    · rfl
    · simp only [if_neg some]
      rfl
  case refine_6 =>
    obtain ⟨idle, queued⟩ := drains free waiting
    unfold StreamWriter.closeStarved
    rw [if_neg idle, if_neg queued, position, head]
    rfl
  case refine_7 =>
    rcases checks with ⟨a, job, rfl⟩ | ⟨b, job, rfl⟩ | ⟨c, job | job, rfl⟩
    all_goals
      rw [StreamWriter.closeStarved_checking (by rw [job]; exact nofun)]
      simp only [StreamWriter.closingPosition, job]
  all_goals simp [starved]

/-- However it is taken in STARVED, a CLOSE leaves the stream in CLOSING or CLOSED with a write-back owed. -/
theorem StreamWriter.closeStarved_ends (w : StreamWriter) (head : Addr) :
    ((w.closeStarved head).phase = .closing ∨ (w.closeStarved head).phase = .closed) ∧ (w.closeStarved head).owed = true := by
  unfold StreamWriter.closeStarved
  split
  · exact ⟨.inl rfl, rfl⟩
  split
  · exact ⟨.inr rfl, rfl⟩
  split
  · exact ⟨.inl rfl, rfl⟩
  · split
    · exact ⟨.inr rfl, rfl⟩
    · exact ⟨.inl rfl, rfl⟩
  all_goals exact ⟨.inr rfl, rfl⟩

/-! ### A stream at the start of STOPPING (R156) -/

theorem StreamWriter.stop_takesClose (opens : w.phase = .opened ∨ w.phase = .starved) : TakesClose w 0 w.stop := by
  rcases opens with phase | phase <;> simp only [StreamWriter.stop, phase]
  · exact StreamWriter.requestClose_opened phase 0
  · exact StreamWriter.requestClose_starved phase 0

theorem StreamWriter.stop_stays (rests : w.phase = .closing ∨ w.phase = .closed ∨ w.phase = .halted) : w.stop = w := by
  rcases rests with phase | phase | phase <;> simp only [StreamWriter.stop, phase]

/-- A CLOSE in OPEN or STARVED leaves the stream in CLOSING or CLOSED with a write-back owed (R154). -/
theorem StreamWriter.stop_ends (opens : w.phase = .opened ∨ w.phase = .starved) :
    (w.stop.phase = .closing ∨ w.stop.phase = .closed) ∧ w.stop.owed = true := by
  rcases opens with phase | phase <;> simp only [StreamWriter.stop, StreamWriter.requestClose, phase]
  · obtain ⟨kept, owed⟩ := (w.enter .closing).drain_keeps
    exact ⟨.inl kept, owed⟩
  · exact w.closeStarved_ends 0

theorem StreamWriter.oweFinalCounts_of_owed (owed : w.owed = true) : w.oweFinalCounts = w := by
  rcases w.oweFinalCounts_cases with same | same <;> rw [same]
  rw [← owed]

theorem StreamWriter.oweFinalCounts_owes (w : StreamWriter) : OwesFinalCounts w w.oweFinalCounts := by
  refine ⟨fun rests moved => ?_, fun other => ?_⟩
  · rw [StreamWriter.oweFinalCounts, if_pos (by simpa using ⟨rests, moved⟩)]
  · rw [StreamWriter.oweFinalCounts, if_neg]
    simp only [Bool.and_eq_true, Bool.or_eq_true, beq_iff_eq, bne_iff_ne]
    rintro ⟨rests, moved⟩
    rcases other with ⟨closed, halted⟩ | same
    · exact rests.elim closed halted
    · exact moved same

theorem StreamWriter.oweFinalCounts_closing (closing : w.phase = .closing) : w.oweFinalCounts = w :=
  w.oweFinalCounts_owes.2 (.inl (by rw [closing]; exact ⟨nofun, nofun⟩))

/-- What the start of STOPPING makes of a stream, by its state (R156). -/
theorem StreamWriter.stop_oweFinalCounts (w : StreamWriter) :
    (w.stop.oweFinalCounts.phase ≠ .opened ∧ w.stop.oweFinalCounts.phase ≠ .starved) ∧
    (w.phase = .opened ∨ w.phase = .starved → TakesClose w 0 w.stop.oweFinalCounts) ∧
    (w.phase = .closing → w.stop.oweFinalCounts = w) ∧
    (w.phase = .closed ∨ w.phase = .halted → OwesFinalCounts w w.stop.oweFinalCounts) := by
  refine ⟨?_, fun opens => ?_, fun closing => ?_, fun rests => ?_⟩
  · rw [StreamWriter.oweFinalCounts_phase]
    cases phase : w.phase
    case opened | starved =>
      obtain ⟨ended | ended, -⟩ := StreamWriter.stop_ends (w := w) (by simp [phase]) <;> rw [ended] <;> exact ⟨nofun, nofun⟩
    all_goals
      rw [StreamWriter.stop_stays (by simp [phase]), phase]
      exact ⟨nofun, nofun⟩
  · rw [StreamWriter.oweFinalCounts_of_owed (StreamWriter.stop_ends opens).2]
    exact StreamWriter.stop_takesClose opens
  · rw [StreamWriter.stop_stays (.inl closing), StreamWriter.oweFinalCounts_closing closing]
  · rw [StreamWriter.stop_stays (.inr rests)]
    exact w.oweFinalCounts_owes

end

/-! ### The entry to STOPPING (R171) -/

section
variable {s : State}

/-- A Filter Table being filled is given up at once: no read of it is in flight (R135). -/
def State.givesUpLoad (s : State) : Bool :=
  s.router.shadow.isFilling && !s.blockInFlight

/-- The part at the start of STOPPING, part by part (R68, R114, R135, R156, R171). -/
def State.stopped (s : State) : State :=
  { s with
    lanes := Vec.map (fun l => l.stop s.time) s.lanes
    survey := { s.survey with queue := [], dwell := none, tap := .idle }
    fetcher := { s.fetcher with
      answers := Vec.map SlotAnswer.stop s.fetcher.answers
      pendingSet := .empty
      item := if s.givesUpLoad then none else s.fetcher.item }
    router := { s.router with shadow := if s.givesUpLoad then .none else s.router.shadow }
    streams := Vec.map StreamWriter.oweFinalCounts (Vec.map StreamWriter.stop s.streams)
    link := { s.link with device := .stopping }
    status := { s.status with intervalTimer := none } }

theorem State.enterStopping_eq (s : State) : s.enterStopping = s.stopped := by
  have load (t : State) : t.stopLoad = if t.givesUpLoad then t.abandonLoad else t := rfl
  unfold State.enterStopping State.stopped
  simp only [load]
  cases given : s.givesUpLoad
  all_goals
    have same : State.givesUpLoad { s with
        fetcher := { s.fetcher with answers := Vec.map SlotAnswer.stop s.fetcher.answers }
        lanes := Vec.map (fun l => l.stop s.time) s.lanes
        survey := { s.survey with queue := [], dwell := none, tap := .idle }
        streams := Vec.map StreamWriter.stop s.streams
        status := { s.status with intervalTimer := none } } = _ := given
    rw [same]
    rfl

theorem State.blockInFlight_iff : s.blockInFlight = true ↔ ∃ j, s.inFlight = some (.filterBlockRead j) := by
  unfold State.blockInFlight
  split
  · rename_i j flies
    simp [flies]
  · rename_i other
    simpa using other

theorem Lane.stop_eq (l : Lane) (now : Time) : l.stop now = { Lane.reset with
    appliedTag := l.appliedTag
    activeMast := l.activeMast
    counters := l.counters
    lastChange := if l.phase = .off then l.lastChange else now } := by
  simp [Lane.stop, Lane.enterOff, Lane.reset]

theorem State.stopped_lane (s : State) (n : LaneId) : s.stopped.lane n = (s.lane n).stop s.time := by
  simp [State.stopped, State.lane]

theorem State.stopped_stream (s : State) (n : StreamId) : s.stopped.stream n = (s.stream n).stop.oweFinalCounts := by
  simp [State.stopped, State.stream]

theorem SlotAnswer.stop_eq (a : SlotAnswer) : a.stop = { a with owed := a.owed && decide (a.image.mark ≠ .accepted) } := by
  obtain ⟨tag, image, owed⟩ := a
  simp only [SlotAnswer.stop, bne, ne_eq, decide_not]
  cases image.mark <;> rfl

theorem State.stopped_answer (s : State) (n : LaneId) : s.stopped.answer n = (s.answer n).stop := by
  simp [State.stopped, State.answer]

/-- What becomes of a shadow at the start of STOPPING, and with it of the item in hand (R135). -/
theorem State.stopped_shadow (s : State) :
    (s.givesUpLoad = true → s.stopped.router.shadow = .none ∧ s.stopped.fetcher.item = none) ∧
      (s.givesUpLoad = false → s.stopped.router.shadow = s.router.shadow ∧ s.stopped.fetcher.item = s.fetcher.item) := by
  refine ⟨fun gives => ?_, fun keeps => ?_⟩
  · simp [State.stopped, gives]
  · simp [State.stopped, keeps]

end

/-! ### RUN writes (R169) -/

section
variable {s : State}

theorem execRunSet_other (other : s.link.device ≠ .idle) : exec .runSet s = .next (s.setRun true) := by
  cases device : s.link.device
  case idle => exact absurd device other
  all_goals simp only [exec, execRunSet, device]

theorem execRunClear_resting (rests : s.link.device = .idle ∨ s.link.device = .stopping) : exec .runClear s = .next (s.setRun false) := by
  rcases rests with device | device <;> simp only [exec, execRunClear, device]

end

/-- Settles O53: the entry to STOPPING is `State.stopped`, its streams by `StreamWriter.stop_oweFinalCounts`; the other writes are single updates. -/
theorem runWritesMoveDevice : Obligations.RunWritesMoveDevice := by
  intro s
  refine ⟨fun idle => .of_settle ?_, fun other => execRunSet_other other, fun rests => execRunClear_resting rests, fun loading => ?_,
    fun faulted => ?_, fun running => ?_⟩
  · simp only [exec, execRunSet, idle]
    rfl
  · simp only [exec, execRunClear, loading]
    rfl
  · simp only [exec, execRunClear, faulted]
    rfl
  obtain ⟨givesUp, keeps⟩ := (s.setRun false).stopped_shadow
  refine ⟨(s.setRun false).stopped, .of_settle ?_, rfl, fun n => ?_, fun n => ?_, rfl, fun n => ?_, fun n => ?_, rfl, rfl,
    fun entries next restart filling => ⟨fun without => givesUp ?_, fun j flies => keeps ?_⟩, fun entries ready => keeps ?_,
    fun none => ?_, rfl, rfl, rfl⟩
  · rw [← State.enterStopping_eq]
    simp only [exec, execRunClear, running]
  · rw [State.stopped_lane, Lane.stop_eq]
    rfl
  · rw [State.stopped_answer, SlotAnswer.stop_eq]
    rfl
  · rw [State.stopped_stream]
    exact (StreamWriter.stop_oweFinalCounts _).1
  · rw [State.stopped_stream]
    exact (StreamWriter.stop_oweFinalCounts _).2
  · have idle : s.blockInFlight = false := Bool.eq_false_iff.2 fun flies => by
      obtain ⟨j, flies⟩ := State.blockInFlight_iff.1 flies
      exact without j flies
    change (s.router.shadow.isFilling && !s.blockInFlight) = true
    rw [filling, idle]
    rfl
  · change (s.router.shadow.isFilling && !s.blockInFlight) = false
    rw [State.blockInFlight_iff.2 ⟨j, flies⟩, Bool.not_true, Bool.and_false]
  · change (s.router.shadow.isFilling && !s.blockInFlight) = false
    rw [ready]
    rfl
  · have kept := keeps (by
      change (s.router.shadow.isFilling && !s.blockInFlight) = false
      rw [none]
      rfl)
    rw [kept.1, kept.2]
    exact ⟨none, rfl⟩

/-! ### The invariants right after reset (R178) -/

/-- No lane holds a plan after reset (R49). -/
theorem State.reset_holds (n : LaneId) (p : TunePlan) : ¬ State.reset.holds n p := by
  have none : PlansMeet (fun _ _ => False) State.reset := .of_reset_lanes rfl
  exact plansMeet_iff.1 none n p

theorem reset_requestsSingle : RequestsSingle State.reset :=
  ⟨List.nodup_nil, nofun⟩

theorem reset_queuesBounded : QueuesBounded State.reset := by
  refine ⟨Nat.zero_le _, rfl, fun n => ?_⟩
  rw [State.reset_stream]
  exact Nat.zero_le _

theorem reset_streamsAtRest : StreamsAtRest State.reset := by
  intro n
  rw [State.reset_stream]
  exact ⟨fun _ => ⟨rfl, rfl, rfl, nofun⟩, nofun, fun t ⟨port, _⟩ => nomatch port⟩

/-- Settles O52: the reception side and the quality figures by their lemmas about the reset lanes, the plans since none is held, the rest since
every queue is empty and the port free. -/
theorem invariantsHoldAtReset : Obligations.InvariantsHoldAtReset := by
  obtain ⟨sound, settled⟩ : ReceptionKept True State.reset := .of_reset_parts rfl rfl
  exact ⟨sound, .of_reset_parts rfl rfl, plansInRange_iff.2 fun n p holds => absurd holds (State.reset_holds n p), reset_requestsSingle,
    reset_queuesBounded, rfl, settled trivial, fun m n _ q r holds => absurd holds (State.reset_holds m q), reset_streamsAtRest⟩

end Sys2Proof.Machine
end

section
namespace Sys2Proof.Machine

/-! PROOFS. The choice of a survey request (spec/05): within the class chosen, the lowest lane or the first in queue order (R81). -/

/-- Order LANE: no request is of a lower lane than the one picked. -/
theorem lowestLane_le {rs : List SurveyRequest} {r : SurveyRequest} (h : lowestLane rs = some r) : ∀ q ∈ rs, r.lane ≤ q.lane := by
  induction rs generalizing r with
  | nil => cases h
  | cons a as ih =>
    rw [List.forall_mem_cons]
    simp only [lowestLane] at h
    split at h
    · rename_i alone
      cases h
      simp [lowestLane_eq_none alone]
    · rename_i q lowest
      split at h <;> cases h
      · rename_i lower
        exact ⟨le_of_lt lower, ih lowest⟩
      · rename_i notLower
        exact ⟨le_rfl, fun x hx => (not_lt.1 notLower).trans (ih lowest x hx)⟩

/-- The request chosen is the one that the survey order picks among the requests of its class. -/
theorem chooseRequest_picks {order : SurveyOrder} {rs : List SurveyRequest} {r : SurveyRequest} (h : chooseRequest order rs = some r) :
    pickByOrder order (rs.filter fun q => q.cls == r.cls) = some r := by
  have ofClass {cls : SurveyClass} (picked : pickByOrder order (rs.filter fun q => q.cls == cls) = some r) : r.cls = cls :=
    eq_of_beq (List.mem_filter.1 (pickByOrder_mem picked)).2
  unfold chooseRequest at h
  split at h
  · rename_i picked
    cases h
    rwa [ofClass picked]
  · rwa [ofClass h]

theorem chooseRequest_lane_le {rs : List SurveyRequest} {r q : SurveyRequest} (h : chooseRequest .lane rs = some r) (waits : q ∈ rs)
    (sameClass : q.cls = r.cls) : r.lane ≤ q.lane :=
  lowestLane_le (chooseRequest_picks h) q (List.mem_filter.2 ⟨waits, beq_iff_eq.2 sameClass⟩)

theorem chooseRequest_arrival_first {rs : List SurveyRequest} {r : SurveyRequest} (h : chooseRequest .arrival rs = some r) :
    ∃ before after, rs = before ++ r :: after ∧ ∀ q ∈ before, q.cls ≠ r.cls := by
  have first : rs.find? (fun q => q.cls == r.cls) = some r := List.head?_filter.symm.trans (chooseRequest_picks h)
  obtain ⟨-, before, after, parts, others⟩ := List.find?_eq_some_iff_append.1 first
  exact ⟨before, after, parts, fun q hq => by simpa using others q hq⟩

/-- Settles O28: the class by `chooseRequest_some`, the place within the class by the survey order, and the Survey Unit's look at its queue by
`State.surveySettle_acts`. -/
theorem surveyChoice : Obligations.SurveyChoice := by
  refine ⟨fun order rs _ => ⟨⟨chooseRequest_eq_none, ?_⟩, fun r chosen => ?_⟩, State.surveySettle_acts⟩
  · rintro rfl
    cases order <;> rfl
  · obtain ⟨waits, fadeFirst⟩ := chooseRequest_some chosen
    refine ⟨waits, fadeFirst, ?_, ?_⟩
    · rintro rfl q hq sameClass
      exact chooseRequest_lane_le chosen hq sameClass
    · rintro rfl
      exact chooseRequest_arrival_first chosen

end Sys2Proof.Machine
end

section
namespace Sys2Proof.Machine

/-! PROOFS. Channel plan staging (spec/06): when a TUNE is a retune (R109), the five checks (R98), the end of a Lane Slot write-back (R112, R113). -/

/-! ### Retunes (R109) -/

/-- Two allowed sets, each in rising order, are the same list exactly when no entry stands in one of them alone (R19). -/
theorem allowedSet_ne_iff {modes : ModeTable} {p q : ModePolicy} :
    allowedSet modes p ≠ allowedSet modes q ↔
      ∃ m : EntryId, (m ∈ allowedSet modes q ∧ m ∉ allowedSet modes p) ∨ (m ∉ allowedSet modes q ∧ m ∈ allowedSet modes p) := by
  have same : allowedSet modes p = allowedSet modes q ↔ ∀ m, m ∈ allowedSet modes p ↔ m ∈ allowedSet modes q :=
    ⟨fun h m => by rw [h], fun h => (allowedSet_sorted modes p).eq_of_mem_iff (allowedSet_sorted modes q) h⟩
  rw [ne_eq, same, not_forall]
  exact exists_congr fun m => by tauto

/-- A policy is fixed on the mast other than the active one (R52, R109). -/
theorem MastPolicy.fixed_elsewhere_iff (policy : MastPolicy) (active : Mast) :
    (!policy.isAuto && policy.start != active) = true ↔ (policy = .mastA ∧ active = .b) ∨ (policy = .mastB ∧ active = .a) := by
  cases policy <;> cases active <;> decide

/-- Settles O24: the four comparisons of `isRetune`, the allowed sets as sets and the policy by the mast it names. -/
theorem retuneClassification : Obligations.RetuneClassification := by
  intro modes active old new
  simp only [isRetune, Bool.or_eq_true, bne_iff_ne, allowedSet_ne_iff, MastPolicy.fixed_elsewhere_iff, or_assoc, ne_comm]

/-! ### The checks of a staged plan (R98) -/

section
variable {s : State} {n : LaneId} {h : SlotHostHalf} {mode : ModePolicy}

theorem State.checkPlan_of_tune (tune : h.action = some .tune) : s.checkPlan n h = s.checkTune n h := by
  simp only [State.checkPlan, tune]

theorem bandwidthOffered_iff {bandwidth : Nat} :
    (bandwidth == 6 || bandwidth == 7 || bandwidth == 8) = true ↔ bandwidth = 6 ∨ bandwidth = 7 ∨ bandwidth = 8 := by
  simp only [Bool.or_eq_true, beq_iff_eq, or_assoc]

/-- Check 2. -/
theorem State.checkTune_bandwidth (other : ¬(h.bandwidth = 6 ∨ h.bandwidth = 7 ∨ h.bandwidth = 8)) :
    s.checkTune n h = .refuse .badBandwidth := by
  rw [← bandwidthOffered_iff, Bool.not_eq_true] at other
  simp only [State.checkTune, other, Bool.not_false, if_true]

/-- Check 3. -/
theorem State.checkTune_band (offered : h.bandwidth = 6 ∨ h.bandwidth = 7 ∨ h.bandwidth = 8)
    (outside : outsideBand h.centre h.bandwidth = true) : s.checkTune n h = .refuse .freqRange := by
  simp only [State.checkTune, bandwidthOffered_iff.2 offered, outside, Bool.not_true, Bool.false_eq_true, if_false, if_true]

/-- Checks 4 and 5 under a decoded mode policy, then the clamp (R98, R101). -/
def State.checkMode (s : State) (n : LaneId) (h : SlotHostHalf) (mode : ModePolicy) : PlanCheck :=
  if !modeUsable s.station.modes mode then .refuse .badMode
  else if s.overlapsOthers n h.centre h.bandwidth then .refuse .overlap
  else .accept (.tune h.tag (h.clamped mode) (h.adjustedMask (h.clamped mode)))

/-- A TUNE that passes checks 2 and 3 goes on to check 4: a mode code that names no policy is refused (R98). -/
theorem State.checkTune_inside (offered : h.bandwidth = 6 ∨ h.bandwidth = 7 ∨ h.bandwidth = 8)
    (inside : outsideBand h.centre h.bandwidth = false) :
    s.checkTune n h = (modePolicyOf h.modeCode).elim (.refuse .badMode) (s.checkMode n h) := by
  simp only [State.checkTune, bandwidthOffered_iff.2 offered, inside, Bool.not_true, Bool.false_eq_true, if_false]
  cases modePolicyOf h.modeCode <;> rfl

theorem modeUsable_iff {modes : ModeTable} : modeUsable modes mode = true ↔ ∀ e, mode = .fixed e → modes[e].isSome = true := by
  cases mode <;> simp [modeUsable]

theorem State.checkMode_unusable (unusable : modeUsable s.station.modes mode = false) : s.checkMode n h mode = .refuse .badMode := by
  simp only [State.checkMode, unusable, Bool.not_false, if_true]

theorem State.checkMode_usable (usable : modeUsable s.station.modes mode = true) :
    (s.overlapsOthers n h.centre h.bandwidth = true → s.checkMode n h mode = .refuse .overlap) ∧
      (s.overlapsOthers n h.centre h.bandwidth = false →
        s.checkMode n h mode = .accept (.tune h.tag (h.clamped mode) (h.adjustedMask (h.clamped mode)))) := by
  constructor <;> intro overlap <;> simp [State.checkMode, usable, overlap]

end

/-- Settles O30: the checks of `State.checkTune` in their order, the accepted plan in range by `SlotHostHalf.clamped_inRange`. -/
theorem planChecksInOrder : Obligations.PlanChecksInOrder := by
  intro s n h
  refine ⟨fun none => ?_, fun stop => ?_, fun tune other => ?_, fun tune offered => ⟨fun reaches => ?_, fun low high => ?_⟩⟩
  · simp only [State.checkPlan, none]
  · simp only [State.checkPlan, stop]
  · rw [State.checkPlan_of_tune tune, State.checkTune_bandwidth (by omega)]
  · rw [State.checkPlan_of_tune tune, State.checkTune_band offered]
    rw [← Bool.not_eq_false, outsideBand_eq_false]
    omega
  · have inside : outsideBand h.centre h.bandwidth = false := by
      rw [outsideBand_eq_false]
      omega
    rw [State.checkPlan_of_tune tune, State.checkTune_inside offered inside]
    refine ⟨fun none => ?_, fun e fixed missing => ?_, fun mode known usable => ?_⟩
    · rw [none]
      rfl
    · rw [fixed]
      exact State.checkMode_unusable (by rw [modeUsable, missing]; rfl)
    · obtain ⟨overlaps, apart⟩ := State.checkMode_usable (n := n) (h := h) (modeUsable_iff.2 usable)
      rw [known]
      exact ⟨overlaps, fun alone => ⟨_, _, apart alone, SlotHostHalf.clamped_inRange mode offered inside, rfl, rfl, rfl⟩⟩

/-! ### The end of a Lane Slot write-back (R112, R113) -/

theorem execLaneSlotWriteBack_eq {s : State} {t : Transfer} {n : LaneId} {mark : PartMark} (carries : s.carries t (.laneSlotWriteBack n mark)) :
    exec (.laneSlotWriteBackComplete .accepted) s = .next ((s.freePort.accept t).raiseIf (mark != .accepted) .plan).settle ∧
      exec (.laneSlotWriteBackComplete .error) s = .next (s.freePort.linkError .writeError .planFetcher t.address).settle := by
  obtain ⟨port, kind, owned⟩ := carries
  constructor <;> simp only [exec, execLaneSlotWriteBackComplete, State.endWrite, port, kind, owned, Bool.false_eq_true, if_false] <;> rfl

/-- Settles O32: PLAN by the mark the accepted write carries. -/
theorem laneSlotWriteBackRaisesPlan : Obligations.LaneSlotWriteBackRaisesPlan := by
  intro s t n mark carries
  obtain ⟨accepted, error⟩ := execLaneSlotWriteBack_eq carries
  refine ⟨?_, ?_, .of_settle error⟩
  · rintro (rfl | rfl) <;> exact .of_settle accepted
  · rintro rfl
    exact .of_settle accepted

end Sys2Proof.Machine
end

section
namespace Sys2Proof.Machine

/-! PROOFS. Status Record writes and the Attention register (spec/10): the end of a write, in the final group too (R171, R174), and the four
Attention commands (R131, R172). -/

/-! ### The end of a Status Record write (R171, R174) -/

section
variable {s u : State} {t : Transfer} {r : StatusRecord} {result : WriteResult}

/-- The last of the thirteen final writes has just ended: none is owed and no request waits (R171). -/
structure State.EndsStop (s : State) : Prop where
  stopping : s.link.device = .stopping
  final : s.status.finalGroup = true
  noRequest : s.arbiter.queue = []
  station : s.status.stationOwed = false
  lanes : ∀ n : LaneId, s.status.lanesOwed[n] = false

theorem State.statusDone_iff :
    s.statusDone = true ↔ s.arbiter.queue = [] ∧ s.status.stationOwed = false ∧ ∀ n : LaneId, s.status.lanesOwed[n] = false := by
  simp [State.statusDone, allRecords, StatusWriter.owes, mem_allLanes]

theorem State.endsStop_iff : (s.link.device == .stopping && s.status.finalGroup && s.statusDone) = true ↔ s.EndsStop := by
  simp only [Bool.and_eq_true, beq_iff_eq, State.statusDone_iff]
  exact ⟨fun ⟨⟨stopping, final⟩, noRequest, station, lanes⟩ => ⟨stopping, final, noRequest, station, lanes⟩,
    fun ⟨stopping, final, noRequest, station, lanes⟩ => ⟨⟨stopping, final⟩, noRequest, station, lanes⟩⟩

/-- The part once the write has ended, accepted or failed (R158, R164, R165). -/
theorem State.endWrite_owned (owned : t.abandoned = false) (who : FaultRequester) :
    s.endWrite t result who = if result = .accepted then s.freePort.accept t else s.freePort.linkError .writeError who t.address := by
  rcases s.endWrite_cases t result who with ⟨rfl, same⟩ | ⟨rfl, -, same⟩ | ⟨-, abandoned, -⟩
  · exact same
  · exact same
  · rw [owned] at abandoned
    cases abandoned

theorem execStatusRecordWrite_stays (carries : s.carries t (.statusRecordWrite r)) (stays : ¬s.EndsStop) :
    exec (.statusRecordWriteComplete result) s = .next (s.endWrite t result .statusWriter).settle := by
  obtain ⟨port, kind, owned⟩ := carries
  simp only [exec, execStatusRecordWriteComplete, port, kind, owned, Bool.false_eq_true, if_false, if_neg (mt State.endsStop_iff.1 stays)]

theorem execStatusRecordWrite_ends (carries : s.carries t (.statusRecordWrite r)) (ends : s.EndsStop) :
    exec (.statusRecordWriteComplete result) s = .next (s.endWrite t result .statusWriter).endStopping.settle := by
  obtain ⟨port, kind, owned⟩ := carries
  simp only [exec, execStatusRecordWriteComplete, port, kind, owned, Bool.false_eq_true, if_false, if_pos (State.endsStop_iff.2 ends)]

/-! #### Entry to IDLE, or to LOADING (R169, R171) -/

theorem State.endStopping_link (s : State) :
    s.endStopping.link.device = (if s.link.run = true then .loading else .idle) ∧
      s.endStopping.link.notice = s.link.notice ||| Cause.stopped.bit ∧ s.endStopping.link.linkErrors = s.link.linkErrors ∧ s.endStopping.link.lastFault = s.link.lastFault := by
  unfold State.endStopping
  simp only [State.raise_run]
  cases run : s.link.run <;> simp [State.setDevice, State.enterLoading, run]

/-- The pending set is emptied, the last answered tags become none, and what the end of STOPPING does not speak of stands (R94, R171, R172). -/
theorem State.endStopping_leaves (s : State) :
    s.endStopping.status = { s.status with finalGroup := false } ∧ s.endStopping.fetcher.pendingSet = .empty ∧
      s.endStopping.fetcher.answers = Vec.map (fun a => { a with lastAnswered := none }) s.fetcher.answers ∧
      s.endStopping.lanes = s.lanes ∧ s.endStopping.streams = s.streams ∧ s.endStopping.station = s.station ∧ s.endStopping.time = s.time := by
  unfold State.endStopping
  simp only
  split <;> exact ⟨rfl, rfl, rfl, rfl, rfl, rfl, rfl⟩

theorem State.endStopping_lastAnswered (s : State) (n : LaneId) : (s.endStopping.answer n).lastAnswered = none := by
  obtain ⟨-, -, answers, -⟩ := s.endStopping_leaves
  simp [State.answer, answers]

/-- With no item in the pending set nothing of it is taken: settling places requests alone. -/
theorem State.takeStatusNow_empty (empty : s.fetcher.pendingSet = .empty) : s.takeStatusNow = s := by
  rcases s.takeStatusNow_cases with same | ⟨-, -, now, -⟩
  · exact same
  · rw [empty] at now
    cases now

end

/-- Settles O56: what follows the end of the write turns on `State.EndsStop`; the end of STOPPING by `State.endStopping_link` and
`State.endStopping_leaves`. -/
theorem statusRecordWriteEnds : Obligations.StatusRecordWriteEnds := by
  intro s ended t r result carries hended
  obtain ⟨-, -, owned⟩ := id carries
  rw [← State.endWrite_owned owned] at hended
  have stays (h : ¬s.EndsStop) : Gives (.statusRecordWriteComplete result) s ended :=
    .of_settle (hended ▸ execStatusRecordWrite_stays carries h)
  refine ⟨fun outside => stays fun ends => ?_, fun more => stays fun ends => ?_, fun stopping final noRequest station lanes => ?_⟩
  · rw [ends.final] at outside
    cases outside
  · rcases more with waits | owed | ⟨n, owed⟩
    · exact waits ends.noRequest
    · rw [ends.station] at owed
      cases owed
    · rw [ends.lanes n] at owed
      cases owed
  · have frame : { ended with arbiter := s.arbiter, link := s.link, output := s.output } = s :=
      hended ▸ (s.endWrite_frame t result .statusWriter).2
    have run : ended.link.run = s.link.run := by
      rw [hended, State.endWrite_owned owned]
      split <;> rfl
    obtain ⟨device, notice, errors, fault⟩ := ended.endStopping_link
    obtain ⟨status, pending, -, lanes', streams, settings, time⟩ := ended.endStopping_leaves
    have settled : ended.endStopping.settle = ended.endStopping.placeRequests := by rw [State.settle, State.takeStatusNow_empty pending]
    refine ⟨ended.endStopping.settle, hended ▸ execStatusRecordWrite_ends carries ⟨stopping, final, noRequest, station, lanes⟩,
      ?_, ?_, ?_, ?_, ?_, ?_, fun n => ?_, ?_, ?_, ?_, ?_⟩
    · rw [State.settle_link, device, run]
    · rw [State.settle_link, notice, BitVec.getLsbD_or]
      exact Bool.or_true _
    · rw [State.settle_link, errors]
    · rw [State.settle_link, fault]
    · rw [settled, State.placeRequests_status, status]
    · rw [settled, State.placeRequests_fetcher, pending]
    · rw [State.settle_answer, State.endStopping_lastAnswered]
    · rw [State.settle_lanes, lanes']
      exact (congrArg State.lanes frame :)
    · rw [State.settle_streams, streams]
      exact (congrArg State.streams frame :)
    · rw [State.settle_station, settings]
      exact (congrArg State.station frame :)
    · rw [State.settle_time, time]
      exact (congrArg State.time frame :)

/-! ### Attention (R131, R172) -/

section
variable {s : State}

theorem DeviceState.takesAttention_iff {device : DeviceState} : device.takesAttention = true ↔ device = .loading ∨ device = .running := by
  cases device <;> decide

/-- What each Attention command leaves before it settles, in LOADING and RUNNING (R172). -/
theorem exec_attention (takes : s.link.device = .loading ∨ s.link.device = .running) :
    (∀ n, exec (.attentionLane n) s =
      .next (s.setPending { s.fetcher.pendingSet with lanes := s.fetcher.pendingSet.lanes.set n true }).settle) ∧
    (∀ n, exec (.attentionStream n) s =
      .next (s.setPending { s.fetcher.pendingSet with streams := s.fetcher.pendingSet.streams.set n true }).settle) ∧
    exec .attentionFilter s = .next s.nameFilter.settle ∧
    exec .attentionStatusNow s = .next (s.setPending { s.fetcher.pendingSet with statusNow := true }).settle := by
  have taken := DeviceState.takesAttention_iff.2 takes
  simp [exec, execAttentionLane, execAttentionStream, execAttentionFilter, execAttentionStatusNow, taken]

/-- In the other device states an Attention command is ignored (R172). -/
theorem exec_attention_ignored (ignores : ¬(s.link.device = .loading ∨ s.link.device = .running)) :
    (∀ n, exec (.attentionLane n) s = .next s) ∧ (∀ n, exec (.attentionStream n) s = .next s) ∧
      exec .attentionFilter s = .next s ∧ exec .attentionStatusNow s = .next s := by
  have ignored : s.link.device.takesAttention = false := Bool.eq_false_iff.2 (mt DeviceState.takesAttention_iff.1 ignores)
  simp [exec, execAttentionLane, execAttentionStream, execAttentionFilter, execAttentionStatusNow, ignored]

/-- FILTER joins the pending set unless a shadow is being filled (R172). -/
theorem State.nameFilter_adds (quiet : ∀ table next restart, s.router.shadow ≠ .filling table next restart) : s.nameFilter = s.addFilterItem := by
  unfold State.nameFilter
  split
  · rfl
  · rfl
  · rename_i filling
    exact absurd filling (quiet _ _ _)

/-- FILTER while a shadow is being filled restarts the load (R131). -/
theorem State.nameFilter_restarts {table : FilterTable} {next : Fin 8} {restart : Bool} (filling : s.router.shadow = .filling table next restart) :
    s.nameFilter = s.setShadow (if s.blockInFlight then .filling table next true else .filling table 0 false) := by
  simp only [State.nameFilter, filling]
  split <;> rfl

end

/-- Settles O57: FILTER during a filling by whether a read of the table is in flight (`State.blockInFlight_iff`). -/
theorem attentionAddsItems : Obligations.AttentionAddsItems := by
  refine fun s => ⟨fun takes => ?_, fun ignores => exec_attention_ignored ?_⟩
  · obtain ⟨lane, stream, filter, statusNow⟩ := exec_attention takes
    refine ⟨fun n => .of_settle (lane n), fun n => .of_settle (stream n), .of_settle statusNow, fun quiet => ?_,
      fun table next restart filling => ⟨fun j flies => ?_, fun none => ?_⟩⟩
    · rw [State.nameFilter_adds quiet] at filter
      exact .of_settle filter
    · rw [State.nameFilter_restarts filling, if_pos (State.blockInFlight_iff.2 ⟨j, flies⟩)] at filter
      exact .of_settle filter
    · rw [State.nameFilter_restarts filling, if_neg fun flies => (State.blockInFlight_iff.1 flies).elim none] at filter
      exact .of_settle filter
  · rcases ignores with device | device | device <;> simp [device]

end Sys2Proof.Machine
end

section
namespace Sys2Proof.Machine

/-! PROOFS. The grant (spec/09): what each request is granted (R159), the grant with no newer request, withdrawals, races (R161, R163). -/

section
variable {s t : State} {u : Transfer} {r : Requester} {rest queue later : List Requester} {slots : List StreamId} {n : StreamId}

/-! ### Tables in rising order -/

/-- In a list in rising order the entry that meets a condition, below which none does, is the first found. -/
theorem find?_eq_some_of_least {k : Nat} {p : Fin k → Bool} {l : List (Fin k)} (sorted : l.Pairwise (· < ·)) {a : Fin k} (member : a ∈ l)
    (meets : p a = true) (least : ∀ b, b < a → p b = false) : l.find? p = some a := by
  obtain ⟨before, after, rfl⟩ := List.append_of_mem member
  obtain ⟨-, -, below⟩ := List.pairwise_append.1 sorted
  rw [List.find?_eq_some_iff_append]
  exact ⟨meets, before, after, rfl, fun b hb => by rw [least b (below b hb a List.mem_cons_self)]; rfl⟩

theorem allLanes_sorted : allLanes.Pairwise (· < ·) := by decide

theorem allStreams_sorted : allStreams.Pairwise (· < ·) := by decide

/-- A search through all of a table's places finds one exactly when some entry meets the condition. -/
theorem find?_isSome_eq_any {α : Type} {k : Nat} (p : α → Bool) (v : Vector α k) {l : List (Fin k)} (all : ∀ n, n ∈ l) :
    (l.find? fun n => p v[n]).isSome = Vec.any p v := by
  rw [Bool.eq_iff_iff, List.find?_isSome, Vec.any_iff]
  exact ⟨fun ⟨n, _, meets⟩ => ⟨n.val, n.isLt, meets⟩, fun ⟨i, below, meets⟩ => ⟨⟨i, below⟩, all _, meets⟩⟩

/-! ### Who is granted something (R159) -/

theorem State.lowestOwed_isSome (s : State) : s.lowestOwed.isSome = s.fetcher.owes :=
  find?_isSome_eq_any SlotAnswer.owed s.fetcher.answers mem_allLanes

theorem PendingSet.first_isSome (p : PendingSet) : p.first.isSome = !p.onlyStatusNow := by
  have lanes : (allLanes.find? fun n => p.lanes[n]).isSome = Vec.any id p.lanes := find?_isSome_eq_any id p.lanes mem_allLanes
  have streams : (allStreams.find? fun n => p.streams[n]).isSome = Vec.any id p.streams := find?_isSome_eq_any id p.streams mem_allStreams
  rw [PendingSet.onlyStatusNow, Bool.not_not, ← lanes, ← streams, PendingSet.first]
  cases allLanes.find? fun n => p.lanes[n] with
  | some n => rfl
  | none =>
    cases p.filter
    · cases allStreams.find? fun n => p.streams[n] <;> rfl
    · rfl

theorem State.grantWork_isSome (s : State) :
    s.grantWork.isSome = ((s.link.device == .loading && s.fetcher.loadRead == .wanted) ||
      (s.link.device == .running && (s.router.shadow.isFilling || (s.fetcher.item.isNone && !s.fetcher.pendingSet.onlyStatusNow)))) := by
  unfold State.grantWork
  rw [← PendingSet.first_isSome]
  cases s.link.device with
  | loading => cases s.fetcher.loadRead <;> rfl
  | running =>
    cases s.router.shadow with
    | filling table next restart => rfl
    | none => cases s.fetcher.item <;> simp [Shadow.isFilling]
    | ready table => cases s.fetcher.item <;> simp [Shadow.isFilling]
  | idle => rfl
  | stopping => rfl
  | faulted => rfl

theorem jobTransfer_isSome (n : StreamId) (sequence : Counter) (job : RecordJob) : (jobTransfer n sequence job).isSome = (job != .none) := by
  cases job <;> rfl

/-- A request is granted something exactly when its requester has something to transfer (R159). -/
theorem State.grantRequest_isSome (s : State) (r : Requester) : (s.grantRequest r).isSome = s.hasTransfer r := by
  cases r with
  | fetcher =>
    rw [State.grantRequest, State.grantFetcher, State.hasTransfer, State.fetcherWants, Bool.or_assoc, ← State.grantWork_isSome,
      ← State.lowestOwed_isSome]
    cases s.lowestOwed <;> simp
  | stream n =>
    rw [State.grantRequest, State.grantStream, State.hasTransfer, StreamWriter.wants, ← jobTransfer_isSome n (s.stream n).sequence]
    cases jobTransfer n (s.stream n).sequence (s.stream n).job with
    | some t => rfl
    | none => cases (s.stream n).owed <;> rfl
  | status r =>
    rw [State.grantRequest, State.grantStatus, State.hasTransfer]
    cases s.status.owes r <;> rfl

/-! ### Class-1 grants (R159, R161) -/

/-- The grant replaces the whole Record Queue: what stood there before does not matter. -/
theorem State.grantQueue_setQueue (s : State) (q later queue : List Requester) :
    (s.setQueue q).grantQueue later queue = s.grantQueue later queue := by
  induction queue with
  | nil => rfl
  | cons r rest ih =>
    simp only [State.grantQueue, ih]
    rfl

/-- A head with something to transfer is granted it, and the others stay (R161). -/
theorem State.grantQueue_head (asks : s.hasTransfer r = true) :
    ∃ u, s.grantQueue later (r :: rest) = some u ∧ (s.setQueue (rest ++ later)).grantRequest r = some u := by
  have grants : ((s.setQueue (rest ++ later)).grantRequest r).isSome = true := (State.grantRequest_isSome _ r).trans asks
  obtain ⟨u, granted⟩ := Option.isSome_iff_exists.1 grants
  exact ⟨u, by simp only [State.grantQueue, granted], granted⟩

/-- A request with nothing left to transfer is withdrawn (R159). -/
theorem State.grantQueue_withdraws (idle : s.hasTransfer r = false) : s.grantQueue later (r :: rest) = s.grantQueue later rest := by
  have grants : ((s.setQueue (rest ++ later)).grantRequest r).isSome = false := (State.grantRequest_isSome _ r).trans idle
  simp only [State.grantQueue, Option.not_isSome_iff_eq_none.1 (Bool.eq_false_iff.1 grants)]

/-- No request is granted only when all are withdrawn. -/
theorem State.grantQueue_none (none : s.grantQueue later queue = none) : ∀ r ∈ queue, s.hasTransfer r = false := by
  induction queue with
  | nil => exact fun _ member => nomatch member
  | cons a rest ih =>
    cases asks : s.hasTransfer a with
    | true =>
      obtain ⟨u, granted, -⟩ := State.grantQueue_head (later := later) (rest := rest) asks
      rw [granted] at none
      cases none
    | false =>
      rw [State.grantQueue_withdraws asks] at none
      exact List.forall_mem_cons.2 ⟨asks, ih none⟩

/-! ### Class-2 grants (R163) -/

/-- The choice looks at the streams and the rotation point alone. -/
theorem chooseSlot_congr (streams : t.streams = s.streams) (rotation : t.arbiter.rotation = s.arbiter.rotation) (slots : List StreamId) :
    chooseSlot t slots = chooseSlot s slots := by
  have stream (n : StreamId) : t.stream n = s.stream n := congrArg (·[n]) streams
  have before (a b : StreamId) : slotBefore t a b = slotBefore s a b := by
    simp only [slotBefore, stream, rotation]
  induction slots with
  | nil => rfl
  | cons a as ih => simp only [chooseSlot, ih, before]

theorem State.grantClass2_eq (s : State) (slots : List StreamId) : s.grantClass2 slots = (chooseSlot s slots).map s.grantSlot := by
  unfold State.grantClass2
  cases chooseSlot s slots <;> rfl

theorem State.grantAmong_eq (s : State) (queue later : List Requester) (slots : List StreamId) :
    s.grantAmong queue later slots = (s.grantQueue later queue).or ((chooseSlot s slots).map (s.setQueue later).grantSlot) := by
  rw [State.grantAmong, State.grantClass2_eq, chooseSlot_congr (t := s.setQueue later) (s := s) rfl rfl]
  cases s.grantQueue later queue <;> rfl

/-- What stood in the Record Queue before the grant does not matter to it. -/
theorem State.grantAmong_setQueue (s : State) (q queue later : List Requester) (slots : List StreamId) :
    (s.setQueue q).grantAmong queue later slots = s.grantAmong queue later slots := by
  simp only [State.grantAmong, State.grantQueue_setQueue]
  rfl

theorem State.grantAmong_withdraws (idle : s.hasTransfer r = false) :
    s.grantAmong (r :: queue) later slots = s.grantAmong queue later slots := by
  simp only [State.grantAmong, State.grantQueue_withdraws idle]

/-! ### The grant at a free port (R161) -/

/-- The grant among all requests that wait, and of stream `choice` when none of them has anything left to transfer. -/
def State.grantAll (s : State) (choice : Option StreamId) : State :=
  (s.grantQueue [] s.arbiter.queue).getD ((choice.map (s.setQueue []).grantSlot).getD (s.setQueue []))

/-- A class-1 grant does not depend on the stream; without one every request has been withdrawn (R159, R161). -/
theorem State.grantAll_cases (s : State) :
    (∀ a b, s.grantAll a = s.grantAll b) ∨
      (∀ r ∈ s.arbiter.queue, s.hasTransfer r = false) ∧
        ∀ choice, s.grantAll choice = (choice.map (s.setQueue []).grantSlot).getD (s.setQueue []) := by
  unfold State.grantAll
  cases granted : s.grantQueue [] s.arbiter.queue with
  | some u => exact .inl fun _ _ => rfl
  | none => exact .inr ⟨State.grantQueue_none granted, fun _ => rfl⟩

/-- With an empty Record Queue the grant is that of the stream chosen, or of nothing. -/
theorem State.grantAll_nil (empty : s.arbiter.queue = []) (choice : Option StreamId) : s.grantAll choice = (choice.map s.grantSlot).getD s := by
  have same : s.setQueue [] = s := empty ▸ rfl
  rw [State.grantAll, empty, same]
  rfl

theorem State.grantWith_eq (s : State) (requestsWait slotWaits : Bool) :
    s.grantWith requestsWait slotWaits =
      ((s.endRace.grantAmong (s.arbiter.now requestsWait) (s.arbiter.later requestsWait) (s.slotsNow slotWaits)).or
        (s.endRace.grantAmong (s.arbiter.later requestsWait) [] s.slotRequests)).getD (s.endRace.setQueue []) := by
  unfold State.grantWith
  dsimp only
  cases s.endRace.grantAmong (s.arbiter.now requestsWait) (s.arbiter.later requestsWait) (s.slotsNow slotWaits) with
  | some u => rfl
  | none => cases s.endRace.grantAmong (s.arbiter.later requestsWait) [] s.slotRequests <;> rfl

theorem State.endRace_chooseSlot (s : State) (slots : List StreamId) : chooseSlot s.endRace slots = chooseSlot s slots :=
  chooseSlot_congr (t := s.endRace) (s := s) rfl rfl slots

/-- The grant taken after the new requests: all that wait stand together. -/
theorem State.grantWith_after {requestsWait slotWaits : Bool} (now : s.arbiter.now requestsWait = s.arbiter.queue)
    (noneLater : s.arbiter.later requestsWait = []) :
    s.grantWith requestsWait slotWaits = s.endRace.grantAll ((chooseSlot s (s.slotsNow slotWaits)).or (chooseSlot s s.slotRequests)) := by
  simp only [State.grantWith_eq, now, noneLater, State.grantAmong_eq, State.endRace_chooseSlot, State.grantAll, State.endRace_queue,
    State.grantQueue]
  cases s.endRace.grantQueue [] s.arbiter.queue with
  | some u => rfl
  | none => cases chooseSlot s (s.slotsNow slotWaits) <;> rfl

/-- The grant taken before every request of the Record Queue: that of a stream, if one may be chosen. -/
theorem State.grantWith_before {requestsWait slotWaits : Bool} (noneNow : s.arbiter.now requestsWait = [])
    (later : s.arbiter.later requestsWait = s.arbiter.queue) :
    s.grantWith requestsWait slotWaits =
      ((chooseSlot s (s.slotsNow slotWaits)).map s.endRace.grantSlot).getD (s.endRace.grantAll (chooseSlot s s.slotRequests)) := by
  simp only [State.grantWith_eq, noneNow, later, State.grantAmong_eq, State.endRace_chooseSlot, State.grantAll, State.endRace_queue,
    State.grantQueue]
  cases chooseSlot s (s.slotsNow slotWaits) with
  | some n => rfl
  | none => cases s.endRace.grantQueue [] s.arbiter.queue <;> rfl

/-- Where every request is new, the grant is taken after them or before them (log entry 2). -/
theorem Arbiter.allNew {a : Arbiter} (new : a.fresh = a.queue.length) (wait : Bool) :
    (a.now wait = a.queue ∧ a.later wait = []) ∨ (a.now wait = [] ∧ a.later wait = a.queue) := by
  by_cases none : a.fresh = 0
  · exact .inl ⟨a.now_settled wait none, a.later_settled wait none⟩
  · rw [Arbiter.now, Arbiter.later, if_neg none, if_neg none, new, Nat.sub_self]
    cases wait
    · exact .inl ⟨rfl, rfl⟩
    · exact .inr ⟨rfl, rfl⟩

/-- With a request that is not new at the head, the grant chooses among it and the older ones behind it. -/
theorem Arbiter.now_cons {a : Arbiter} (queue : a.queue = r :: rest) (older : a.fresh < a.queue.length) (wait : Bool) :
    a.now wait = r :: Arbiter.now { a with queue := rest } wait ∧ a.later wait = Arbiter.later { a with queue := rest } wait := by
  rw [queue, List.length_cons] at older
  have count : rest.length + 1 - a.fresh = rest.length - a.fresh + 1 := by omega
  simp only [Arbiter.now, Arbiter.later, queue, List.length_cons, count, List.take_succ_cons, List.drop_succ_cons, and_true]
  by_cases none : a.fresh = 0
  · rw [if_pos none, if_pos none]
  · cases wait <;> simp only [if_neg none, if_true, Bool.false_eq_true, if_false]

/-! ### The command (R158, R161) -/

theorem exec_grant (free : s.arbiter.port = none) :
    exec .transferGrant s = .next (s.grantWith (Config.newRequestsWait s.picks) (Config.newSlotWaits s.picks)) := by
  simp only [exec, execTransferGrant, free]

/-- The port is free, and there is no request that the grant may be taken before. -/
structure State.Unraced (s : State) : Prop where
  free : s.arbiter.port = none
  fresh : s.arbiter.fresh = 0
  handedTo : s.arbiter.handedTo = none

theorem State.Unraced.endRace_eq (unraced : s.Unraced) : s.endRace = s := by
  obtain ⟨-, fresh, handedTo⟩ := unraced
  have arbiter : { s.arbiter with fresh := 0, handedTo := none } = s.arbiter := by rw [← fresh, ← handedTo]
  rw [State.endRace, arbiter, if_pos (by simp [fresh, handedTo])]

/-- Without a race everything that waits stands together. -/
theorem State.Unraced.exec_grant (unraced : s.Unraced) : exec .transferGrant s = .next (s.grantAll (chooseSlot s s.slotRequests)) := by
  rw [Machine.exec_grant unraced.free, State.grantWith_after (s.arbiter.now_settled _ unraced.fresh) (s.arbiter.later_settled _ unraced.fresh),
    State.slotsNow_settled s _ unraced.handedTo, Option.or_self, unraced.endRace_eq]

theorem State.Unraced.exec_head {v : State} (unraced : s.Unraced) (queue : s.arbiter.queue = r :: rest)
    (grants : (s.setQueue rest).grantRequest r = some v) : exec .transferGrant s = .next v := by
  have head : s.grantQueue [] (r :: rest) = some v := by simp only [State.grantQueue, List.append_nil, grants]
  rw [unraced.exec_grant, State.grantAll, queue, head]
  rfl

theorem State.Unraced.exec_slot (unraced : s.Unraced) (queue : s.arbiter.queue = []) :
    exec .transferGrant s = .next (((chooseSlot s s.slotRequests).map s.grantSlot).getD s) := by
  rw [unraced.exec_grant, State.grantAll_nil queue]

/-! ### Withdrawals and races (R159, R161) -/

/-- The grant passes over a head with nothing left to transfer. -/
theorem State.grantWith_withdraws {requestsWait slotWaits : Bool} (queue : s.arbiter.queue = r :: rest) (idle : s.hasTransfer r = false)
    (older : s.arbiter.fresh < s.arbiter.queue.length) :
    s.grantWith requestsWait slotWaits = (s.setQueue rest).grantWith requestsWait slotWaits := by
  have moved : (s.setQueue rest).endRace = s.endRace.setQueue rest := rfl
  obtain ⟨now, later⟩ := Arbiter.now_cons queue older requestsWait
  rw [State.grantWith_eq, State.grantWith_eq (s.setQueue rest), now, later, State.grantAmong_withdraws (s := s.endRace) idle, moved,
    State.grantAmong_setQueue, State.grantAmong_setQueue]
  rfl

/-- The grant of a head that is not new does not depend on the newer requests. -/
theorem State.grantWith_head {requestsWait slotWaits : Bool} (queue : s.arbiter.queue = r :: rest) (asks : s.hasTransfer r = true)
    (older : s.arbiter.fresh < s.arbiter.queue.length) (choice : Option StreamId) :
    s.grantWith requestsWait slotWaits = s.endRace.grantAll choice := by
  obtain ⟨now, later⟩ := Arbiter.now_cons queue older requestsWait
  have whole := Arbiter.now_later { s.arbiter with queue := rest } requestsWait
  obtain ⟨u, first, granted⟩ := State.grantQueue_head (s := s.endRace) (rest := Arbiter.now { s.arbiter with queue := rest } requestsWait)
    (later := Arbiter.later { s.arbiter with queue := rest } requestsWait) asks
  obtain ⟨v, all, granted'⟩ := State.grantQueue_head (s := s.endRace) (rest := rest) (later := []) asks
  have same : u = v := by
    rw [whole] at granted
    rw [List.append_nil, granted] at granted'
    exact Option.some.inj granted'
  rw [State.grantWith_eq, now, later, State.grantAmong_eq, first, State.grantAll, State.endRace_queue, queue, all, same]
  rfl

/-- A withdrawn head leaves the grant as if it had not been there (R159). -/
theorem exec_grant_withdraws (free : s.arbiter.port = none) (queue : s.arbiter.queue = r :: rest) (idle : s.hasTransfer r = false)
    (older : s.arbiter.fresh < s.arbiter.queue.length) : exec .transferGrant s = exec .transferGrant (s.setQueue rest) := by
  rw [exec_grant free, exec_grant (s := s.setQueue rest) free, State.grantWith_withdraws queue idle older]
  rfl

/-- The grant once the race is over: all that wait stand together. -/
theorem State.endRace_unraced (free : s.arbiter.port = none) : s.endRace.Unraced :=
  ⟨free, rfl, rfl⟩

theorem exec_grant_endRace (free : s.arbiter.port = none) :
    exec .transferGrant s.endRace = .next (s.endRace.grantAll (chooseSlot s s.slotRequests)) := by
  rw [(State.endRace_unraced free).exec_grant, State.endRace_chooseSlot]
  rfl

/-- A head that has something to transfer is granted before every newer request (R161). -/
theorem exec_grant_head (free : s.arbiter.port = none) (queue : s.arbiter.queue = r :: rest) (asks : s.hasTransfer r = true)
    (older : s.arbiter.fresh < s.arbiter.queue.length) : exec .transferGrant s = exec .transferGrant s.endRace := by
  rw [exec_grant free, exec_grant_endRace free, State.grantWith_head queue asks older]

/-- Where every request is new, the grant is taken after them or before them. -/
theorem exec_grant_new (free : s.arbiter.port = none) (new : s.arbiter.fresh = s.arbiter.queue.length) :
    ∃ slotWaits, exec .transferGrant s = .next (s.endRace.grantAll ((chooseSlot s (s.slotsNow slotWaits)).or (chooseSlot s s.slotRequests))) ∨
      exec .transferGrant s =
        .next (((chooseSlot s (s.slotsNow slotWaits)).map s.endRace.grantSlot).getD (s.endRace.grantAll (chooseSlot s s.slotRequests))) := by
  refine ⟨Config.newSlotWaits s.picks, ?_⟩
  rw [exec_grant free]
  rcases Arbiter.allNew new (Config.newRequestsWait s.picks) with ⟨now, later⟩ | ⟨now, later⟩
  · exact .inl (congrArg _ (State.grantWith_after now later))
  · exact .inr (congrArg _ (State.grantWith_before now later))

/-- With an empty Record Queue the streams alone are chosen among. -/
theorem exec_grant_slots (free : s.arbiter.port = none) (queue : s.arbiter.queue = []) (fresh : s.arbiter.fresh = 0) :
    ∃ slotWaits, exec .transferGrant s =
      .next ((((chooseSlot s (s.slotsNow slotWaits)).or (chooseSlot s s.slotRequests)).map s.endRace.grantSlot).getD s.endRace) := by
  refine ⟨Config.newSlotWaits s.picks, ?_⟩
  rw [exec_grant free, State.grantWith_after (s.arbiter.now_settled _ fresh) (s.arbiter.later_settled _ fresh),
    State.grantAll_nil (s := s.endRace) queue]

theorem State.slotsNow_handed {h : StreamId} (handed : s.arbiter.handedTo = some h) (slotWaits : Bool) :
    s.slotsNow slotWaits = if slotWaits then s.slotRequests.filter fun k => k != h else s.slotRequests := by
  simp only [State.slotsNow, handed]

/-- The stream chosen: among all that wait, or among all but the one whose completion freed the port (R161). -/
theorem State.slotsNow_choice {h : StreamId} (handed : s.arbiter.handedTo = some h) (chosen : chooseSlot s s.slotRequests = some n)
    (slotWaits : Bool) :
    chooseSlot s (s.slotsNow slotWaits) = some n ∨ chooseSlot s (s.slotsNow slotWaits) = none ∨
      ∃ m, chooseSlot s (s.slotRequests.filter fun k => k != h) = some m ∧ chooseSlot s (s.slotsNow slotWaits) = some m := by
  rw [State.slotsNow_handed handed]
  cases slotWaits with
  | false => exact .inl chosen
  | true =>
    rw [if_pos rfl]
    cases chooseSlot s (s.slotRequests.filter fun k => k != h) with
    | none => exact .inr (.inl rfl)
    | some m => exact .inr (.inr ⟨m, rfl, rfl⟩)

theorem State.slotsNow_nil (nothing : s.slotRequests = []) (slotWaits : Bool) : s.slotsNow slotWaits = [] := by
  cases handed : s.arbiter.handedTo with
  | none => rw [State.slotsNow_settled s _ handed, nothing]
  | some h => simp [State.slotsNow_handed handed, nothing]

/-- A race is over once its free values are read (log entry 2). -/
theorem State.eq_endRace (race : s.arbiter.fresh ≠ 0 ∨ s.arbiter.handedTo ≠ none)
    (raceEnds : t = { s with picks := s.picks + 1, arbiter := { s.arbiter with fresh := 0, handedTo := none } }) : t = s.endRace := by
  have counted : ¬(decide (s.arbiter.fresh = 0) && s.arbiter.handedTo.isNone) = true := by
    simpa [← not_and_or] using race
  rw [raceEnds, State.endRace, if_neg counted]

/-! #### The outcomes of a race (log entry 2) -/

theorem new_races (nonempty : s.arbiter.queue ≠ []) (new : s.arbiter.fresh = s.arbiter.queue.length) : s.arbiter.fresh ≠ 0 := by
  rwa [new, ne_eq, List.length_eq_zero_iff]

/-- New requests race with a slot write: the grant is made with them, or before them. -/
theorem exec_grant_new_or_slot (free : s.arbiter.port = none) (new : s.arbiter.fresh = s.arbiter.queue.length)
    (handed : s.arbiter.handedTo = none) (chosen : chooseSlot s s.slotRequests = some n) :
    exec .transferGrant s = exec .transferGrant s.endRace ∨ exec .transferGrant s = .next (s.endRace.grantSlot n) := by
  rw [exec_grant_endRace free]
  obtain ⟨slotWaits, after | before⟩ := exec_grant_new free new
  · rw [State.slotsNow_settled s _ handed, Option.or_self] at after
    exact .inl after
  · rw [State.slotsNow_settled s _ handed, chosen] at before
    exact .inr before

/-- A stream whose completion freed the port races with the others: the grant is made with its request, or before it. -/
theorem exec_grant_slot_or_other {h m : StreamId} (free : s.arbiter.port = none) (queue : s.arbiter.queue = []) (fresh : s.arbiter.fresh = 0)
    (handed : s.arbiter.handedTo = some h) (chosen : chooseSlot s s.slotRequests = some n)
    (other : chooseSlot s (s.slotRequests.filter fun k => k != h) = some m) :
    exec .transferGrant s = .next (s.endRace.grantSlot n) ∨ exec .transferGrant s = .next (s.endRace.grantSlot m) := by
  obtain ⟨slotWaits, granted⟩ := exec_grant_slots free queue fresh
  rw [State.slotsNow_handed handed, chosen] at granted
  cases slotWaits
  · rw [if_neg Bool.false_ne_true, chosen] at granted
    exact .inl granted
  · rw [if_pos rfl, other] at granted
    exact .inr granted

/-- New requests with no slot waiting are granted at once. -/
theorem exec_grant_new_alone (free : s.arbiter.port = none) (new : s.arbiter.fresh = s.arbiter.queue.length) (nothing : s.slotRequests = []) :
    exec .transferGrant s = exec .transferGrant s.endRace := by
  rw [exec_grant_endRace free, nothing]
  obtain ⟨slotWaits, after | before⟩ := exec_grant_new free new
  · rw [State.slotsNow_nil nothing, nothing] at after
    exact after
  · rw [State.slotsNow_nil nothing, nothing] at before
    exact before

/-- A lone stream whose completion freed the port is granted at once. -/
theorem exec_grant_slot_alone {h : StreamId} (free : s.arbiter.port = none) (queue : s.arbiter.queue = []) (fresh : s.arbiter.fresh = 0)
    (handed : s.arbiter.handedTo = some h) (chosen : chooseSlot s s.slotRequests = some n)
    (alone : (s.slotRequests.filter fun k => k != h) = []) : exec .transferGrant s = .next (s.endRace.grantSlot n) := by
  obtain ⟨slotWaits, granted⟩ := exec_grant_slots free queue fresh
  rw [State.slotsNow_handed handed, alone, chosen] at granted
  cases slotWaits
  · rw [if_neg Bool.false_ne_true, chosen] at granted
    exact granted
  · exact granted

/-- Both races together: the grant among all that wait, a slot write before the new requests, or one of another stream, before them or after
they are withdrawn. -/
theorem exec_grant_both_races {h : StreamId} (free : s.arbiter.port = none) (new : s.arbiter.fresh = s.arbiter.queue.length)
    (handed : s.arbiter.handedTo = some h) (chosen : chooseSlot s s.slotRequests = some n) :
    exec .transferGrant s = exec .transferGrant s.endRace ∨ exec .transferGrant s = .next (s.endRace.grantSlot n) ∨
      ∃ m, chooseSlot s (s.slotRequests.filter fun k => k != h) = some m ∧
        (exec .transferGrant s = .next (s.endRace.grantSlot m) ∨
          (∀ r ∈ s.arbiter.queue, s.hasTransfer r = false) ∧ exec .transferGrant s = .next ((s.endRace.setQueue []).grantSlot m)) := by
  rw [exec_grant_endRace free]
  obtain ⟨slotWaits, after | before⟩ := exec_grant_new free new
  · rcases State.slotsNow_choice handed chosen slotWaits with first | none | ⟨m, other, first⟩
    · rw [first, Option.some_or, ← chosen] at after
      exact .inl after
    · rw [none, Option.none_or] at after
      exact .inl after
    · rw [first, Option.some_or] at after
      rcases s.endRace.grantAll_cases with any | ⟨withdrawn, grants⟩
      · exact .inl (after.trans (congrArg _ (any _ _)))
      · exact .inr (.inr ⟨m, other, .inr ⟨withdrawn, after.trans (congrArg _ (grants (some m)))⟩⟩)
  · rcases State.slotsNow_choice handed chosen slotWaits with first | none | ⟨m, other, first⟩
    · rw [first] at before
      exact .inr (.inl before)
    · rw [none] at before
      exact .inl before
    · rw [first] at before
      exact .inr (.inr ⟨m, other, .inl before⟩)

/-! ### What is granted, transfer by transfer (R111, R130, R144, R146, R154, R170, R174) -/

theorem writeOf_eq {size : Nat} (kind : TransferKind) (address : Addr) {data : List Byte} (length : data.length = size) :
    writeOf kind address data = { kind := kind, address := address, size := size, data := data, abandoned := false } := by
  rw [← length]
  rfl

theorem State.grantStatus_owed {record : StatusRecord} (owed : s.status.owes record = true) :
    s.grantRequest (.status record) = some (State.issue { s with status := s.status.granted record } (s.statusTransfer record)) :=
  if_pos owed

theorem State.grantFetcher_answer {n : LaneId} (owed : (s.answer n).owed = true) (lowest : ∀ m, m < n → (s.answer m).owed = false) :
    s.grantRequest .fetcher = some (s.issueWriteBack n) := by
  have first : s.lowestOwed = some n := find?_eq_some_of_least allLanes_sorted (mem_allLanes n) owed lowest
  simp only [State.grantRequest, State.grantFetcher, first]

theorem State.grantFetcher_work (none : ∀ n, (s.answer n).owed = false) : s.grantRequest .fetcher = s.grantWork := by
  have noAnswer : s.lowestOwed = .none := List.find?_eq_none.2 fun n _ => by simp [none n]
  simp only [State.grantRequest, State.grantFetcher, noAnswer]

theorem State.grantWork_loads (loading : s.link.device = .loading) (wanted : s.fetcher.loadRead = .wanted) :
    s.grantWork = some s.issueLoadRead := by
  simp only [State.grantWork, loading, wanted, beq_self_eq_true, if_true]

theorem State.grantWork_fills {table : FilterTable} {next : Fin 8} {restart : Bool} (running : s.link.device = .running)
    (filling : s.router.shadow = .filling table next restart) : s.grantWork = some (s.issueBlockRead next) := by
  simp only [State.grantWork, running, filling]

theorem State.grantWork_item {i : AttentionItem} (running : s.link.device = .running) (quiet : s.router.shadow.isFilling = false)
    (noItem : s.fetcher.item = none) (first : s.fetcher.pendingSet.first = some i) : s.grantWork = some (s.issueItem i) := by
  simp only [State.grantWork, running, noItem, first, Option.isSome_none, Bool.false_eq_true, if_false, Option.map_some]
  cases shadow : s.router.shadow with
  | filling table next restart =>
    rw [shadow] at quiet
    cases quiet
  | none => rfl
  | ready table => rfl

/-- The items in their order: lanes 0 to 11, FILTER, streams 0 to 15 (R172). -/
theorem PendingSet.first_lane {p : PendingSet} {n : LaneId} (waits : p.lanes[n] = true) (lowest : ∀ m : LaneId, m < n → p.lanes[m] = false) :
    p.first = some (.lane n) := by
  have found : (allLanes.find? fun m => p.lanes[m]) = some n := find?_eq_some_of_least allLanes_sorted (mem_allLanes n) waits lowest
  simp only [PendingSet.first, found]

theorem PendingSet.no_lane {p : PendingSet} (noLane : ∀ m : LaneId, p.lanes[m] = false) : (allLanes.find? fun m => p.lanes[m]) = none :=
  List.find?_eq_none.2 fun m _ => Bool.eq_false_iff.1 (noLane m)

theorem PendingSet.first_filter {p : PendingSet} (noLane : ∀ m : LaneId, p.lanes[m] = false) (waits : p.filter = true) :
    p.first = some .filter := by
  simp only [PendingSet.first, PendingSet.no_lane noLane, waits, if_true]

theorem PendingSet.first_stream {p : PendingSet} {n : StreamId} (noLane : ∀ m : LaneId, p.lanes[m] = false) (noFilter : p.filter = false)
    (waits : p.streams[n] = true) (lowest : ∀ m : StreamId, m < n → p.streams[m] = false) : p.first = some (.stream n) := by
  have found : (allStreams.find? fun m => p.streams[m]) = some n := find?_eq_some_of_least allStreams_sorted (mem_allStreams n) waits lowest
  simp only [PendingSet.first, PendingSet.no_lane noLane, noFilter, found, Bool.false_eq_true, if_false]

theorem CloseReason.markBytes (reason : CloseReason) : leBytes 1 reason.markCode = [if reason = .fault then 3#8 else 2#8] := by
  cases reason <;> rfl

/-- The Buffer Record transfer of a stream's job, field by field (R141, R146, R150, R181). -/
theorem jobTransfer_eq {sequence : Counter} {job : RecordJob}
    (is : (∃ a, job = .read a ∧ u = { kind := .bufferRecordRead n, address := a, size := 32, data := [], abandoned := false }) ∨
      (∃ b, job = .filling b ∧
        u = { kind := .fillingWrite n, address := b.address + 0x1F#64, size := 1, data := [1#8], abandoned := false }) ∨
      (∃ c, job = .closingFields c ∧
        u = { kind := .closingFieldsWrite n, address := c.address + 0x12#64, size := 13, data := c.fieldBytes sequence, abandoned := false }) ∨
      (∃ c, job = .mark c ∧
        u = { kind := .markWrite n, address := c.address + 0x1F#64, size := 1, data := [if c.reason = .fault then 3#8 else 2#8],
              abandoned := false }) ∨
      (∃ a, job = .emptyMark a ∧
        u = { kind := .emptyMarkWrite n, address := a + 0x1F#64, size := 1, data := [0#8], abandoned := false })) :
    jobTransfer n sequence job = some u := by
  rcases is with ⟨a, rfl, rfl⟩ | ⟨b, rfl, rfl⟩ | ⟨c, rfl, rfl⟩ | ⟨c, rfl, rfl⟩ | ⟨a, rfl, rfl⟩
  case inl => rfl
  case inr.inl => rfl
  case inr.inr.inl =>
    rw [jobTransfer, writeOf_eq _ _ (c.fieldBytes_length sequence)]
    rfl
  case inr.inr.inr.inl =>
    rw [jobTransfer, c.reason.markBytes]
    rfl
  case inr.inr.inr.inr => rfl

theorem State.grantStream_job (moves : jobTransfer n (s.stream n).sequence (s.stream n).job = some u) :
    s.grantRequest (.stream n) = some (s.issue u) := by
  simp only [State.grantRequest, State.grantStream, moves]

theorem State.grantStream_writeBack (noJob : (s.stream n).job = .none) (owed : (s.stream n).owed = true) :
    s.grantRequest (.stream n) = some (s.issueStreamWriteBack n) := by
  simp only [State.grantRequest, State.grantStream, noJob, jobTransfer, owed, if_true]

theorem State.grantSlot_eq {b : HeldBuffer} {slot : Slot} {rest : List Slot} (fifo : (s.stream n).fifo = slot :: rest)
    (current : (s.stream n).current = some b) : s.grantSlot n = s.issueSlot n b slot rest := by
  simp only [State.grantSlot, fifo, current]

end

/-- Settles O49: without a race `State.Unraced.exec_head` and `State.Unraced.exec_slot` with the transfer of each requester; a race ends
(`State.endRace`) with the grant among all that wait, or with one taken before the new ones (`exec_grant_new`, `exec_grant_slots`). -/
theorem transferGrantIssues : Obligations.TransferGrantIssues := by
  refine ⟨fun s free fresh handedTo => ?_, fun s free => ⟨fun r rest queue idle older => exec_grant_withdraws free queue idle older,
    fun t ht => ⟨?_, ?_, ?_, ?_, ?_, ?_⟩⟩⟩
  · have unraced : s.Unraced := ⟨free, fresh, handedTo⟩
    refine ⟨?_, ?_, ?_, ?_, ?_, ?_, ?_⟩
    · intro rest queue owed
      refine unraced.exec_head queue ((State.grantStatus_owed (by exact owed)).trans ?_)
      rw [State.statusTransfer, writeOf_eq _ _ (stationRecordBytes_length _ _)]
      rfl
    · intro n rest queue owed
      refine unraced.exec_head queue ((State.grantStatus_owed (by exact owed)).trans ?_)
      rw [State.statusTransfer, writeOf_eq _ _ (laneRecordBytes_length _ _ _)]
      rfl
    · intro n rest queue owed lowest
      refine unraced.exec_head queue ((State.grantFetcher_answer (by exact owed) (by exact lowest)).trans ?_)
      rw [State.issueWriteBack, writeOf_eq _ _ (WriteBackImage.bytes_length _)]
      rfl
    · intro rest queue none
      have work : (s.setQueue rest).grantRequest .fetcher = (s.setQueue rest).grantWork := State.grantFetcher_work none
      refine ⟨fun loading wanted => ?_, fun table next restart running filling => ?_, fun running quiet noItem => ?_⟩
      · exact unraced.exec_head queue (work.trans (State.grantWork_loads loading wanted))
      · exact unraced.exec_head queue (work.trans (State.grantWork_fills running filling))
      have items {i : AttentionItem} (first : s.fetcher.pendingSet.first = some i) :
          exec .transferGrant s = .next ((s.setQueue rest).issueItem i) :=
        unraced.exec_head queue (work.trans (State.grantWork_item running quiet noItem first))
      refine ⟨?_, ?_, ?_⟩
      · intro n waits lowest
        exact items (PendingSet.first_lane waits lowest)
      · intro noLane waits
        exact items (PendingSet.first_filter noLane waits)
      · intro n noLane noFilter waits lowest
        exact items (PendingSet.first_stream noLane noFilter waits lowest)
    · intro n rest queue
      refine ⟨fun t job => ?_, fun noJob owed => ?_⟩
      · exact unraced.exec_head queue (State.grantStream_job (jobTransfer_eq job))
      · refine unraced.exec_head queue ((State.grantStream_writeBack (by exact noJob) (by exact owed)).trans ?_)
        rw [State.issueStreamWriteBack, writeOf_eq _ _ (StreamWriter.writeBackBytes_length _)]
        rfl
    · intro n b slot rest queue chosen fifo current
      rw [unraced.exec_slot queue, chosen, Option.map_some, Option.getD_some, State.grantSlot_eq fifo current, State.issueSlot,
        writeOf_eq _ _ (Slot.bytes192_length _)]
      rfl
    · intro queue nothing
      rw [unraced.exec_slot queue, nothing]
      rfl
  · intro r rest queue asks older race
    rw [State.eq_endRace race ht]
    exact exec_grant_head free queue asks older
  · intro n nonempty new handed chosen
    rw [State.eq_endRace (.inl (new_races nonempty new)) ht]
    exact exec_grant_new_or_slot free new handed chosen
  · intro h n m queue fresh handed chosen other
    rw [State.eq_endRace (.inr (handed ▸ nofun)) ht]
    exact exec_grant_slot_or_other free queue fresh handed chosen other
  · intro race new nothing
    rw [State.eq_endRace race ht]
    exact exec_grant_new_alone free new nothing
  · intro h n queue fresh handed chosen alone
    rw [State.eq_endRace (.inr (handed ▸ nofun)) ht]
    exact exec_grant_slot_alone free queue fresh handed chosen alone
  · intro h n nonempty new handed chosen
    rw [State.eq_endRace (.inl (new_races nonempty new)) ht]
    exact exec_grant_both_races free new handed chosen

end Sys2Proof.Machine
end

section
namespace Sys2Proof.Machine

/-! PROOFS. The delivery side of the part (spec/07, 08, 09): what the commands of the reception side leave alone, then the capacities and the
streams at rest (R115, R143, R148, R150, R153, R156, R167). -/

/-! ### The delivery side: the reception side leaves it alone -/

/-- The Packet Router, the Stream Writers, the memory port, and the Link Port but for its two notice registers. -/
def State.delivery (s : State) : Router × Vector StreamWriter 16 × Option Transfer × LinkPort :=
  (s.router, s.streams, s.arbiter.port, { s.link with notice := 0, enable := 0 })

section
variable {s t : State}

theorem State.delivery_router (same : t.delivery = s.delivery) : t.router = s.router := congrArg (·.1) same

theorem State.delivery_stream (same : t.delivery = s.delivery) (n : StreamId) : t.stream n = s.stream n :=
  congrArg (fun d : Router × Vector StreamWriter 16 × Option Transfer × LinkPort => d.2.1[n]) same

theorem State.delivery_port (same : t.delivery = s.delivery) : t.arbiter.port = s.arbiter.port := congrArg (·.2.2.1) same

theorem State.delivery_device (same : t.delivery = s.delivery) : t.link.device = s.link.device := congrArg (·.2.2.2.device) same

theorem State.delivery_base (same : t.delivery = s.delivery) : t.link.base = s.link.base := congrArg (·.2.2.2.base) same

theorem State.delivery_faults (same : t.delivery = s.delivery) :
    t.link.linkErrors = s.link.linkErrors ∧ t.link.lastFault = s.link.lastFault :=
  ⟨congrArg (·.2.2.2.linkErrors) same, congrArg (·.2.2.2.lastFault) same⟩

end

@[simp] theorem State.setLane_delivery (s : State) (n : LaneId) (l : Lane) : (s.setLane n l).delivery = s.delivery := rfl
@[simp] theorem State.modLane_delivery (s : State) (n : LaneId) (f : Lane → Lane) : (s.modLane n f).delivery = s.delivery := rfl
@[simp] theorem State.setSurvey_delivery (s : State) (u : SurveyUnit) : ({ s with survey := u } : State).delivery = s.delivery := rfl
@[simp] theorem State.setFetcher_delivery (s : State) (f : PlanFetcher) : ({ s with fetcher := f } : State).delivery = s.delivery := rfl
@[simp] theorem State.setStatus_delivery (s : State) (w : StatusWriter) : ({ s with status := w } : State).delivery = s.delivery := rfl
@[simp] theorem State.clearDwell_delivery (s : State) : s.clearDwell.delivery = s.delivery := rfl
@[simp] theorem State.setAnswer_delivery (s : State) (n : LaneId) (a : SlotAnswer) : (s.setAnswer n a).delivery = s.delivery := rfl
@[simp] theorem State.oweLane_delivery (s : State) (n : LaneId) : (s.oweLane n).delivery = s.delivery := rfl
@[simp] theorem State.oweAll_delivery (s : State) : s.oweAll.delivery = s.delivery := rfl
@[simp] theorem State.setNotices_delivery (s : State) (x y : BitVec 7) : (s.setNotices x y).delivery = s.delivery := rfl
@[simp] theorem State.setPending_delivery (s : State) (p : PendingSet) : (s.setPending p).delivery = s.delivery := rfl
@[simp] theorem State.dropItem_delivery (s : State) : s.dropItem.delivery = s.delivery := rfl
@[simp] theorem State.raise_delivery (s : State) (c : Cause) : (s.raise c).delivery = s.delivery := rfl

@[simp] theorem State.raiseIf_delivery (s : State) (b : Bool) (c : Cause) : (s.raiseIf b c).delivery = s.delivery := by
  cases b <;> rfl

@[simp] theorem State.settle_delivery (s : State) : s.settle.delivery = s.delivery :=
  (congrArg State.delivery s.settle_frame :)

@[simp] theorem State.setFront_delivery (s : State) (m : Mast) (f : MastFrontEnd) : (s.setFront m f).delivery = s.delivery := by
  cases m <;> rfl

@[simp] theorem State.impulse_delivery (s : State) (m : Mast) : (s.impulse m).delivery = s.delivery :=
  s.setFront_delivery m _

/-! #### The Survey Unit's operations (R76 to R90) -/

@[simp] theorem State.surveySettle_delivery (s : State) : s.surveySettle.delivery = s.delivery :=
  (congrArg State.delivery s.surveySettle_frame :)

@[simp] theorem State.withdrawRequest_delivery (s : State) (n : LaneId) : (s.withdrawRequest n).delivery = s.delivery :=
  (congrArg State.delivery (s.withdrawRequest_frame n) :)

@[simp] theorem State.fileRequest_delivery (s : State) (n : LaneId) (cls : SurveyClass) : (s.fileRequest n cls).delivery = s.delivery :=
  (congrArg State.delivery (s.fileRequest_frame n cls) :)

@[simp] theorem State.fadeRequest_delivery (s : State) (n : LaneId) : (s.fadeRequest n).delivery = s.delivery :=
  (congrArg State.delivery (s.fadeRequest_frame n) :)

@[simp] theorem State.endDwell_delivery (s : State) (d : Dwell) (p : TunePlan) : (s.endDwell d p).delivery = s.delivery :=
  State.surveySettle_delivery _

@[simp] theorem State.takeSurveyReport_delivery (s : State) (d : Dwell) (p : TunePlan) (signal error : BitVec 16) :
    (s.takeSurveyReport d p signal error).delivery = s.delivery := by
  unfold State.takeSurveyReport
  simp only
  split
  · rfl
  · split
    · simp
    · rfl

/-! #### Entries, takes and reports of a lane (R53 to R67, R105 to R110) -/

@[simp] theorem State.enterSeek_delivery (s : State) (n : LaneId) (p : TunePlan) : (s.enterSeek n p).delivery = s.delivery := by
  simp [State.enterSeek]

@[simp] theorem State.enterTrack_delivery (s : State) (n : LaneId) (p : TunePlan) : (s.enterTrack n p).delivery = s.delivery := by
  simp [State.enterTrack]

@[simp] theorem State.enterLock_delivery (s : State) (n : LaneId) (p : TunePlan) : (s.enterLock n p).delivery = s.delivery := by
  simp [State.enterLock]

@[simp] theorem State.recoverLock_delivery (s : State) (n : LaneId) (p : TunePlan) : (s.recoverLock n p).delivery = s.delivery := by
  simp [State.recoverLock]

@[simp] theorem State.enterFade_delivery (s : State) (n : LaneId) (p : TunePlan) : (s.enterFade n p).delivery = s.delivery := by
  unfold State.enterFade
  cases p.mastPolicy.isAuto <;> simp

@[simp] theorem State.applyUpdate_delivery (s : State) (n : LaneId) (p : TunePlan) : (s.applyUpdate n p).delivery = s.delivery := by
  unfold State.applyUpdate
  cases p.mastPolicy.isAuto <;> simp

@[simp] theorem State.applyStop_delivery (s : State) (n : LaneId) (notify : NotifyFlags) : (s.applyStop n notify).delivery = s.delivery :=
  (State.raiseIf_delivery _ _ _).trans (State.withdrawRequest_delivery _ n)

@[simp] theorem State.finishTake_delivery (s : State) (n : LaneId) (tag : Tag) (adjusted : BitVec 16) :
    (s.finishTake n tag adjusted).delivery = s.delivery := rfl

@[simp] theorem State.takePlan_delivery (s : State) (n : LaneId) (plan : AcceptedPlan) : (s.takePlan n plan).delivery = s.delivery := by
  cases plan with
  | stop tag notify => simp [State.takePlan]
  | tune tag p adjusted =>
    simp only [State.takePlan, State.finishTake_delivery]
    rcases s.applyTune_cases n p with same | ⟨-, -, -, same⟩ <;> rw [same]
    · simp [State.applyRetune]
    · simp

@[simp] theorem State.takePending_delivery (s : State) (n : LaneId) : (s.takePending n).delivery = s.delivery := by
  unfold State.takePending
  split <;> simp

@[simp] theorem State.leaveForSeek_delivery (s : State) (n : LaneId) (p : TunePlan) : (s.leaveForSeek n p).delivery = s.delivery := by
  simp [State.leaveForSeek]

theorem State.actTrack_delivery (s : State) (n : LaneId) (p : TunePlan) (used : Bool) : (s.actTrack n p used).delivery = s.delivery := by
  simp only [State.actTrack, apply_ite State.delivery, State.enterLock_delivery, State.modLane_delivery, ite_self]

theorem State.actLock_delivery (s : State) (n : LaneId) (p : TunePlan) (used : Bool) : (s.actLock n p used).delivery = s.delivery := by
  simp only [State.actLock, apply_ite State.delivery, State.enterFade_delivery, State.modLane_delivery, ite_self]

theorem State.actFade_delivery (s : State) (n : LaneId) (p : TunePlan) (used : Bool) : (s.actFade n p used).delivery = s.delivery := by
  simp only [State.actFade, apply_ite State.delivery, State.recoverLock_delivery, State.leaveForSeek_delivery, State.modLane_delivery, ite_self]

@[simp] theorem State.actOnReport_delivery (s : State) (n : LaneId) (p : TunePlan) (v : ReportVerdict) :
    (s.actOnReport n p v).delivery = s.delivery := by
  unfold State.actOnReport
  split
  · simp
  · simp
  · split
    · rfl
    · rfl
    · exact s.actTrack_delivery n p v.used
    · exact s.actLock_delivery n p v.used
    · exact s.actFade_delivery n p v.used

@[simp] theorem State.switchAtSymbolEnd_delivery (s : State) (n : LaneId) : (s.switchAtSymbolEnd n).delivery = s.delivery := by
  unfold State.switchAtSymbolEnd
  simp only
  split
  · split <;> simp
  · rfl

@[simp] theorem State.takeReport_delivery (s : State) (n : LaneId) (p : TunePlan) (r : SymbolReport) :
    (s.takeReport n p r).delivery = s.delivery := by
  unfold State.takeReport State.frameStartApply
  simp only [State.switchAtSymbolEnd_delivery]
  split <;> simp

@[simp] theorem State.seekCycle_delivery (s : State) (n : LaneId) (p : TunePlan) : (s.seekCycle n p).delivery = s.delivery := by
  simp [State.seekCycle]

@[simp] theorem State.holdPlan_delivery (s : State) (n : LaneId) (plan : AcceptedPlan) : (s.holdPlan n plan).delivery = s.delivery := rfl

@[simp] theorem State.examineSlot_delivery (s : State) (n : LaneId) (slot : Vector Byte 64) : (s.examineSlot n slot).delivery = s.delivery := by
  unfold State.examineSlot State.acceptPlan State.refusePlan
  simp only
  repeat' split
  all_goals simp

/-! #### Commands that leave the delivery side alone -/

/-- A command that moves no packet, makes no transfer and moves no device state: one of the masts, of a lane, of the Survey Unit, of the Status
Writer's timer, of the Attention register but its FILTER bit, of the notices, or of the timer. -/
def Instr.sparesDelivery : Instr → Bool
  | .impulseEvent _ _ | .symbolReport _ _ _ _ _ | .surveyReport _ _ | .seekTimerExpiry _ | .surveyIntervalExpiry _ | .applyWindowExpiry _
  | .statusIntervalExpiry | .stopComplete | .attentionLane _ | .attentionStream _ | .attentionStatusNow | .noticeClear _ | .noticeEnable _
  | .registerWriteIgnored _ _ | .magnitudeFallsBack _ _ | .stationTimerTick => true
  | _ => false

theorem exec_delivery {c : Instr} (spares : Instr.sparesDelivery c = true) (s : State) : Answers (·.delivery = s.delivery) (exec c s) := by
  cases c
  case stationTimerTick => exact answers_next.2 rfl
  case impulseEvent | magnitudeFallsBack | noticeClear | noticeEnable | registerWriteIgnored =>
    clear spares
    dsimp only [exec, execImpulseEvent, execMagnitudeFallsBack, execNoticeClear, execNoticeEnable, execRegisterWriteIgnored]
    repeat' split
    all_goals simp
  case symbolReport | surveyReport | seekTimerExpiry | surveyIntervalExpiry | applyWindowExpiry =>
    clear spares
    dsimp only [exec, execSymbolReport, execSurveyReport, execSeekTimerExpiry, execSurveyIntervalExpiry, execApplyWindowExpiry]
    repeat' split
    all_goals simp
  case statusIntervalExpiry | stopComplete | attentionLane | attentionStream | attentionStatusNow =>
    clear spares
    dsimp only [exec, execStatusIntervalExpiry, execStopComplete, execAttentionLane, execAttentionStream, execAttentionStatusNow]
    split
    all_goals simp
  all_goals cases spares

end Sys2Proof.Machine
end

section
namespace Sys2Proof.Machine

/-! ### What a grant does (R111, R144, R154, R159, R161) -/

/-- A class-1 grant leaves a stream alone or issues its write-back, and the transfer is no slot write; a class-2 grant issues the slot write of
one stream that waits for it, taking the head of its FIFO. -/
inductive GrantMoves (s t : State) : Prop
  | classOne (streams : ∀ n, t.stream n = s.stream n ∨ t.stream n = { s.stream n with owed := false, reported := (s.stream n).counters })
      (other : ∀ u n, ¬t.carries u (.slotWrite n))
  | slot (n : StreamId) (slot : Slot) (rest : List Slot) (waits : (s.stream n).slotWaiting = true) (fifo : (s.stream n).fifo = slot :: rest)
      (streams : t.streams = (s.setStream n { s.stream n with fifo := rest, inFlight := some slot }).streams)
      (own : ∀ u m, t.carries u (.slotWrite m) → m = n)

/-- A grant leaves the Link Port and the Router Queue alone. -/
structure Granted (s t : State) : Prop where
  link : t.link = s.link
  queue : t.router.queue = s.router.queue
  hand : t.router.inHand = s.router.inHand
  moves : GrantMoves s t

section
variable {s t : State}

/-- The transfer carried is the one on the port. -/
theorem State.carries_kind {u v : Transfer} {k : TransferKind} (port : s.arbiter.port = some u) (carries : s.carries v k) : u.kind = k := by
  obtain ⟨busy, kind, -⟩ := carries
  rw [port] at busy
  cases busy
  exact kind

theorem State.carries_nothing {v : Transfer} {k : TransferKind} (free : s.arbiter.port = none) : ¬s.carries v k :=
  fun ⟨busy, _⟩ => nomatch free.symm.trans busy

/-- A class-1 transfer put on the port leaves the streams alone. -/
theorem Granted.classOne {u : Transfer} (requester : u.kind.requester.isSome = true) (port : t.arbiter.port = some u) (link : t.link = s.link)
    (queue : t.router.queue = s.router.queue) (hand : t.router.inHand = s.router.inHand) (streams : t.streams = s.streams) : Granted s t := by
  refine ⟨link, queue, hand, .classOne (fun n => .inl (congrArg (fun w : Vector StreamWriter 16 => w[n]) streams)) fun _ n carries => ?_⟩
  rw [State.carries_kind port carries] at requester
  cases requester

theorem Granted.of_grantWork (granted : s.grantWork = some t) : Granted s t := by
  have item (i : AttentionItem) : Granted s (s.issueItem i) := by
    cases i <;> exact .classOne rfl rfl rfl rfl rfl rfl
  unfold State.grantWork at granted
  repeat' split at granted
  all_goals simp only [Option.some.injEq, reduceCtorEq, Option.map_eq_some_iff] at granted
  · rw [← granted]
    exact .classOne rfl rfl rfl rfl rfl rfl
  · rw [← granted]
    exact .classOne rfl rfl rfl rfl rfl rfl
  all_goals
    obtain ⟨i, -, rfl⟩ := granted
    exact item i

theorem jobTransfer_requester {n : StreamId} {sequence : Counter} {job : RecordJob} {u : Transfer}
    (moves : jobTransfer n sequence job = some u) : u.kind.requester.isSome = true := by
  cases job <;> cases moves <;> rfl

theorem Granted.of_grantRequest {r : Requester} (granted : s.grantRequest r = some t) : Granted s t := by
  cases r with
  | fetcher =>
    simp only [State.grantRequest, State.grantFetcher] at granted
    split at granted
    · cases granted
      exact .classOne rfl rfl rfl rfl rfl rfl
    · exact .of_grantWork granted
  | stream n =>
    simp only [State.grantRequest, State.grantStream] at granted
    split at granted
    · rename_i u job
      cases granted
      exact .classOne (jobTransfer_requester job) rfl rfl rfl rfl rfl
    · split at granted <;> cases granted
      refine ⟨rfl, rfl, rfl, .classOne (fun m => ?_) fun _ m carries => nomatch State.carries_kind rfl carries⟩
      change (s.setStream n _).stream m = _ ∨ (s.setStream n _).stream m = _
      by_cases same : n = m
      · subst same
        exact .inr (s.setStream_stream_self n _)
      · exact .inl (s.setStream_stream_ne _ same)
  | status r =>
    simp only [State.grantRequest, State.grantStatus] at granted
    split at granted <;> cases granted
    exact .classOne (u := s.statusTransfer r) (by cases r <;> rfl) rfl rfl rfl rfl rfl

theorem Granted.of_grantSlot {n : StreamId} (free : s.arbiter.port = none) (waits : (s.stream n).slotWaiting = true) :
    Granted s (s.grantSlot n) := by
  unfold State.grantSlot
  split
  · rename_i slot rest b fifo current
    exact ⟨rfl, rfl, rfl, .slot n slot rest waits fifo rfl fun u m carries =>
      (TransferKind.slotWrite.inj (State.carries_kind rfl carries)).symm⟩
  · exact ⟨rfl, rfl, rfl, .classOne (fun _ => .inl rfl) fun u n => State.carries_nothing free⟩

theorem State.slotRequests_waits {n : StreamId} (asks : n ∈ s.slotRequests) : (s.stream n).slotWaiting = true :=
  (List.mem_filter.1 asks).2

/-- What differs in the Arbiter's queue and races alone makes no difference to what a grant moves. -/
theorem Granted.of_arbiter {r : State} (granted : Granted r t) (streams : r.streams = s.streams) (link : r.link = s.link)
    (router : r.router = s.router) : Granted s t := by
  have stream (n : StreamId) : r.stream n = s.stream n := congrArg (fun w : Vector StreamWriter 16 => w[n]) streams
  obtain ⟨tLink, queue, hand, moves⟩ := granted
  refine ⟨tLink.trans link, queue.trans (by rw [router]), hand.trans (by rw [router]), ?_⟩
  cases moves with
  | classOne moved other => exact .classOne (fun n => stream n ▸ moved n) other
  | slot n slot rest waits fifo moved own =>
    refine .slot n slot rest (stream n ▸ waits) (stream n ▸ fifo) (moved.trans ?_) own
    rw [stream n]
    simp only [State.setStream, streams]

theorem Granted.of_grantAmong {queue later : List Requester} {slots : List StreamId} (free : s.arbiter.port = none)
    (waits : ∀ n ∈ slots, (s.stream n).slotWaiting = true) (granted : s.grantAmong queue later slots = some t) : Granted s t := by
  rcases s.grantAmong_cases queue later slots t granted with first | ⟨-, n, chosen, rfl⟩
  · obtain ⟨-, r, rest, -, issued⟩ := s.grantQueue_cases later queue t first
    exact (Granted.of_grantRequest issued).of_arbiter rfl rfl rfl
  · exact (Granted.of_grantSlot (s := s.setQueue later) free (waits n (chooseSlot_mem s slots n chosen))).of_arbiter rfl rfl rfl

theorem State.slotsNow_waits {wait : Bool} {n : StreamId} (asks : n ∈ s.slotsNow wait) : (s.stream n).slotWaiting = true := by
  unfold State.slotsNow at asks
  split at asks
  · exact State.slotRequests_waits asks
  · split at asks
    · exact State.slotRequests_waits (List.mem_of_mem_filter asks)
    · exact State.slotRequests_waits asks

theorem Granted.of_grantWith (free : s.arbiter.port = none) (requestsWait slotWaits : Bool) :
    Granted s (s.grantWith requestsWait slotWaits) := by
  rcases s.grantWith_cases requestsWait slotWaits with ⟨t, granted, same⟩ | ⟨t, -, granted, same⟩ | same <;> rw [same]
  · exact (Granted.of_grantAmong (s := s.endRace) free (fun n asks => State.slotsNow_waits (s := s) asks) granted).of_arbiter rfl rfl rfl
  · exact (Granted.of_grantAmong (s := s.endRace) free (fun n asks => State.slotRequests_waits (s := s) asks) granted).of_arbiter rfl rfl rfl
  · exact ⟨rfl, rfl, rfl, .classOne (fun _ => .inl rfl) fun u n => State.carries_nothing free⟩

end

/-! ### The record of link errors (R165) -/

/-- What the Link Port holds of link errors: the saturating count and the last fault. -/
def State.faultRecord (s : State) : Counter × LastFault :=
  (s.link.linkErrors, s.link.lastFault)

theorem State.faultRecord_of_delivery {s t : State} (same : t.delivery = s.delivery) : t.faultRecord = s.faultRecord :=
  Prod.ext_iff.2 (State.delivery_faults same)

@[simp] theorem State.raise_faultRecord (s : State) (c : Cause) : (s.raise c).faultRecord = s.faultRecord := rfl
@[simp] theorem State.raiseIf_faultRecord (s : State) (b : Bool) (c : Cause) : (s.raiseIf b c).faultRecord = s.faultRecord :=
  State.faultRecord_of_delivery (s.raiseIf_delivery b c)
@[simp] theorem State.settle_faultRecord (s : State) : s.settle.faultRecord = s.faultRecord :=
  State.faultRecord_of_delivery s.settle_delivery
@[simp] theorem State.setStream_faultRecord (s : State) (n : StreamId) (w : StreamWriter) : (s.setStream n w).faultRecord = s.faultRecord := rfl
@[simp] theorem State.modStream_faultRecord (s : State) (n : StreamId) (f : StreamWriter → StreamWriter) :
    (s.modStream n f).faultRecord = s.faultRecord := rfl
@[simp] theorem State.haltStream_faultRecord (s : State) (n : StreamId) : (s.haltStream n).faultRecord = s.faultRecord := rfl
@[simp] theorem State.dropItem_faultRecord (s : State) : s.dropItem.faultRecord = s.faultRecord := rfl
@[simp] theorem State.setShadow_faultRecord (s : State) (x : Shadow) : (s.setShadow x).faultRecord = s.faultRecord := rfl
@[simp] theorem State.addFilterItem_faultRecord (s : State) : s.addFilterItem.faultRecord = s.faultRecord := rfl
@[simp] theorem State.abandonLoad_faultRecord (s : State) : s.abandonLoad.faultRecord = s.faultRecord := rfl
@[simp] theorem State.failLoad_faultRecord (s : State) : s.failLoad.faultRecord = s.faultRecord := rfl
@[simp] theorem State.swapTable_faultRecord (s : State) (x : FilterTable) : (s.swapTable x).faultRecord = s.faultRecord := rfl
@[simp] theorem State.setBase_faultRecord (s : State) (a : Addr) : (s.setBase a).faultRecord = s.faultRecord := rfl
@[simp] theorem State.setRun_faultRecord (s : State) (b : Bool) : (s.setRun b).faultRecord = s.faultRecord := rfl
@[simp] theorem State.setDevice_faultRecord (s : State) (d : DeviceState) : (s.setDevice d).faultRecord = s.faultRecord := rfl
@[simp] theorem State.emptyPending_faultRecord (s : State) : s.emptyPending.faultRecord = s.faultRecord := rfl
@[simp] theorem State.enterLoading_faultRecord (s : State) : s.enterLoading.faultRecord = s.faultRecord := rfl
@[simp] theorem State.abandonStation_faultRecord (s : State) : s.abandonStation.faultRecord = s.faultRecord := rfl
@[simp] theorem State.enterFaulted_faultRecord (s : State) (reason : LoadFault) : (s.enterFaulted reason).faultRecord = s.faultRecord := rfl
@[simp] theorem State.enterStopping_faultRecord (s : State) : s.enterStopping.faultRecord = s.faultRecord := by
  rw [s.enterStopping_eq]
  rfl
@[simp] theorem State.freePort_faultRecord (s : State) : s.freePort.faultRecord = s.faultRecord := rfl
@[simp] theorem State.endRead_data_faultRecord {k : Nat} (s : State) (t : Transfer) (bytes : Vector Byte k) (who : FaultRequester) :
    (s.endRead t (ReadResult.data bytes == ReadResult.error) who).faultRecord = s.faultRecord := rfl
@[simp] theorem State.endWrite_accepted_faultRecord (s : State) (t : Transfer) (who : FaultRequester) :
    (s.endWrite t .accepted who).faultRecord = s.faultRecord := rfl

@[simp] theorem State.modLane_faultRecord (s : State) (n : LaneId) (f : Lane → Lane) : (s.modLane n f).faultRecord = s.faultRecord := rfl

@[simp] theorem State.offerToRouter_faultRecord (s : State) (n : LaneId) (q : Packet) : (s.offerToRouter n q).faultRecord = s.faultRecord := by
  unfold State.offerToRouter
  split <;> rfl

@[simp] theorem State.examineSlot_faultRecord (s : State) (n : LaneId) (slot : Vector Byte 64) :
    (s.examineSlot n slot).faultRecord = s.faultRecord :=
  State.faultRecord_of_delivery (s.examineSlot_delivery n slot)

@[simp] theorem State.finishLoad_faultRecord (s : State) (block : Vector Byte 256) : (s.finishLoad block).faultRecord = s.faultRecord := by
  unfold State.finishLoad
  split <;> rfl

@[simp] theorem State.endStopping_faultRecord (s : State) : s.endStopping.faultRecord = s.faultRecord := by
  obtain ⟨-, -, count, last⟩ := s.endStopping_link
  exact Prod.ext count last

@[simp] theorem State.oweFinalCounts_faultRecord (s : State) : s.oweFinalCounts.faultRecord = s.faultRecord := by
  unfold State.oweFinalCounts
  split <;> rfl

@[simp] theorem State.takeBlock_faultRecord (s : State) (j : Fin 8) (block : Vector Byte 256) :
    (s.takeBlock j block).faultRecord = s.faultRecord := by
  unfold State.takeBlock
  split
  · rfl
  · rfl
  · rfl
  · split <;> rfl

@[simp] theorem State.nameFilter_faultRecord (s : State) : s.nameFilter.faultRecord = s.faultRecord := by
  unfold State.nameFilter
  split
  · rfl
  · rfl
  · split <;> rfl

@[simp] theorem State.fetchStream_faultRecord (s : State) (n : StreamId) (f : StreamFetch) : (s.fetchStream n f).faultRecord = s.faultRecord := by
  simp [State.fetchStream]

@[simp] theorem State.markWritten_faultRecord (s : State) (n : StreamId) (c : BufferClose) : (s.markWritten n c).faultRecord = s.faultRecord := by
  simp [State.markWritten]

/-- Only a completion with a link error and the resets move the record (R165, R178). -/
theorem exec_faultRecord {c : Instr} (noError : errorOf c = none) (soft : c ≠ .softReset) (power : c ≠ .powerOnReset) (s : State) :
    Answers (·.faultRecord = s.faultRecord) (exec c s) := by
  cases spares : Instr.sparesDelivery c
  case true => exact (exec_delivery spares s).imp fun t same => State.faultRecord_of_delivery same
  cases c
  case softReset => exact absurd rfl soft
  case powerOnReset => exact absurd rfl power
  case transferGrant =>
    dsimp only [exec, execTransferGrant]
    split
    · simp
    · rename_i free
      exact answers_next.2 (congrArg (fun l : LinkPort => (l.linkErrors, l.lastFault)) (Granted.of_grantWith free _ _).link)
  case routePacket =>
    dsimp only [exec, execRoutePacket]
    repeat' split
    all_goals simp
    rfl
  case filterSwap | flushTimerExpiry | runSet | runClear | exchangeBaseLow | exchangeBaseHigh | attentionFilter | packetGate =>
    clear spares noError
    dsimp only [exec, execFilterSwap, execFlushTimerExpiry, execRunSet, execRunClear, execExchangeBaseLow, execExchangeBaseHigh,
      execAttentionFilter, execPacketGate]
    repeat' split
    all_goals simp
  case stationBlockReadComplete result | laneSlotReadComplete result | filterBlockReadComplete result | streamRecordReadComplete result
      | bufferRecordReadComplete result =>
    cases result with
    | error => cases noError
    | data bytes =>
      clear spares noError
      dsimp only [exec, execStationBlockReadComplete, execLaneSlotReadComplete, execFilterBlockReadComplete, execStreamRecordReadComplete,
        execBufferRecordReadComplete]
      repeat' split
      all_goals simp
  case laneSlotWriteBackComplete result | fillingWriteComplete result | slotWriteComplete result | closingFieldsWriteComplete result
      | markWriteComplete result | emptyMarkWriteComplete result | streamWriteBackComplete result | statusRecordWriteComplete result =>
    cases result with
    | error => cases noError
    | accepted =>
      clear spares noError
      dsimp only [exec, execLaneSlotWriteBackComplete, execFillingWriteComplete, execSlotWriteComplete, execClosingFieldsWriteComplete,
        execMarkWriteComplete, execEmptyMarkWriteComplete, execStreamWriteBackComplete, execStatusRecordWriteComplete]
      repeat' split
      all_goals simp
  all_goals cases spares

/-! #### A completion with an error (R135, R164, R165) -/

/-- The record of link errors is `record` and the FAULT notice is set. -/
structure State.ShowsFault (record : Counter × LastFault) (s : State) : Prop where
  record : s.faultRecord = record
  notice : s.link.notice.getLsbD 5 = true

section
variable {record : Counter × LastFault} {s t : State}

theorem State.ShowsFault.congr (h : s.ShowsFault record) (same : t.faultRecord = s.faultRecord) (notice : t.link.notice = s.link.notice) :
    t.ShowsFault record :=
  ⟨same.trans h.record, notice ▸ h.notice⟩

/-- Raising a cause clears no other. -/
theorem State.ShowsFault.raise (h : s.ShowsFault record) (c : Cause) : (s.raise c).ShowsFault record :=
  ⟨h.record, by rw [State.raise_notice, BitVec.getLsbD_or, h.notice, Bool.true_or]⟩

theorem State.ShowsFault.settle (h : s.ShowsFault record) : s.settle.ShowsFault record :=
  h.congr s.settle_faultRecord (by rw [s.settle_link])

theorem State.ShowsFault.haltStream (h : s.ShowsFault record) (n : StreamId) : (s.haltStream n).ShowsFault record :=
  State.ShowsFault.raise (h.congr (t := s.modStream n _) rfl rfl) .stream

theorem State.ShowsFault.failLoad (h : s.ShowsFault record) : s.failLoad.ShowsFault record :=
  (State.ShowsFault.raise (h.congr (t := s.abandonLoad) rfl rfl) .filter).congr rfl rfl

theorem State.ShowsFault.enterFaulted (h : s.ShowsFault record) (reason : LoadFault) : (s.enterFaulted reason).ShowsFault record :=
  ⟨h.record, (State.ShowsFault.raise h .fault).notice⟩

theorem State.ShowsFault.endStopping (h : s.ShowsFault record) : s.endStopping.ShowsFault record := by
  refine ⟨s.endStopping_faultRecord.trans h.record, ?_⟩
  obtain ⟨-, notice, -⟩ := s.endStopping_link
  rw [notice]
  exact (h.raise .stopped).notice

/-- The record after a link error in `s` (R165). -/
def State.recordOf (s : State) (kind : FaultKind) (who : FaultRequester) (address : Addr) : Counter × LastFault :=
  (satInc s.link.linkErrors, { kind := kind, requester := who, address := address.setWidth 32, time := s.time })

theorem State.linkError_shows (s : State) (kind : FaultKind) (who : FaultRequester) (address : Addr) :
    (s.linkError kind who address).ShowsFault (s.recordOf kind who address) := by
  refine ⟨rfl, ?_⟩
  change (s.link.notice ||| Cause.fault.bit).getLsbD 5 = true
  rw [BitVec.getLsbD_or]
  exact Bool.or_true _

theorem State.endRead_shows {u : Transfer} {k : Nat} (owned : u.abandoned = false) (who : FaultRequester) :
    (s.endRead u (ReadResult.error (n := k) == ReadResult.error) who).ShowsFault (s.recordOf .readError who u.address) := by
  have ended : s.endRead u (ReadResult.error (n := k) == ReadResult.error) who = s.freePort.linkError .readError who u.address := by
    simp [State.endRead, owned]
  rw [ended]
  exact s.freePort.linkError_shows .readError who u.address

theorem State.endWrite_shows {u : Transfer} (owned : u.abandoned = false) (who : FaultRequester) :
    (s.endWrite u .error who).ShowsFault (s.recordOf .writeError who u.address) := by
  have ended : s.endWrite u .error who = s.freePort.linkError .writeError who u.address := by
    simp [State.endWrite, owned]
  rw [ended]
  exact s.freePort.linkError_shows .writeError who u.address

end

/-- A completion with an error first records it; what its requester then does leaves the record and the FAULT notice standing. -/
theorem exec_error_shows {c : Instr} {s : State} {t : Transfer} {kind : FaultKind} (carries : s.carries t t.kind)
    (completes : ends c t.kind = true) (error : errorOf c = some kind) :
    ∃ u, exec c s = .next u ∧ u.ShowsFault (s.recordOf kind t.kind.faultRequester t.address) := by
  obtain ⟨port, -, owned⟩ := carries
  have read {k : Nat} (who : FaultRequester) := State.endRead_shows (s := s) (k := k) owned who
  have wrote (who : FaultRequester) := State.endWrite_shows (s := s) owned who
  cases c
  case stationBlockReadComplete result =>
    cases result <;> cases error
    cases own : t.kind <;> rw [own] at completes <;> cases completes
    simp only [exec, execStationBlockReadComplete, port, own, owned, Bool.false_eq_true, if_false]
    split
    · exact ⟨_, rfl, ((read _).enterFaulted .linkError).settle⟩
    · exact ⟨_, rfl, (read _).settle⟩
  case filterBlockReadComplete result =>
    cases result <;> cases error
    cases own : t.kind <;> rw [own] at completes <;> cases completes
    simp only [exec, execFilterBlockReadComplete, port, own, owned, Bool.false_eq_true, if_false]
    split
    · exact ⟨_, rfl, (State.ShowsFault.congr (read _) (State.abandonLoad_faultRecord _) rfl).settle⟩
    · exact ⟨_, rfl, (read _).failLoad.settle⟩
  case laneSlotReadComplete result | streamRecordReadComplete result =>
    cases result <;> cases error
    cases own : t.kind <;> rw [own] at completes <;> cases completes
    simp only [exec, execLaneSlotReadComplete, execStreamRecordReadComplete, port, own, owned, Bool.false_eq_true, if_false]
    exact ⟨_, rfl, (State.ShowsFault.congr (read _) (State.dropItem_faultRecord _) rfl).settle⟩
  case bufferRecordReadComplete result =>
    cases result <;> cases error
    cases own : t.kind <;> rw [own] at completes <;> cases completes
    simp only [exec, execBufferRecordReadComplete, port, own, owned, Bool.false_eq_true, if_false]
    exact ⟨_, rfl, ((read _).haltStream _).settle⟩
  case laneSlotWriteBackComplete result | streamWriteBackComplete result =>
    cases result <;> cases error
    cases own : t.kind <;> rw [own] at completes <;> cases completes
    simp only [exec, execLaneSlotWriteBackComplete, execStreamWriteBackComplete, port, own, owned, Bool.false_eq_true, if_false]
    exact ⟨_, rfl, (wrote _).settle⟩
  case fillingWriteComplete result | closingFieldsWriteComplete result | markWriteComplete result | emptyMarkWriteComplete result =>
    cases result <;> cases error
    cases own : t.kind <;> rw [own] at completes <;> cases completes
    simp only [exec, execFillingWriteComplete, execClosingFieldsWriteComplete, execMarkWriteComplete, execEmptyMarkWriteComplete, port, own,
      owned, Bool.false_eq_true, if_false]
    exact ⟨_, rfl, ((wrote _).haltStream _).settle⟩
  case slotWriteComplete result =>
    cases result <;> cases error
    cases own : t.kind <;> rw [own] at completes <;> cases completes
    simp only [exec, execSlotWriteComplete, port, own, owned, Bool.false_eq_true, if_false]
    exact ⟨_, rfl, (State.ShowsFault.congr (wrote _) (State.modStream_faultRecord _ _ _) rfl).settle⟩
  case statusRecordWriteComplete result =>
    cases result <;> cases error
    cases own : t.kind <;> rw [own] at completes <;> cases completes
    simp only [exec, execStatusRecordWriteComplete, port, own, owned, Bool.false_eq_true, if_false]
    split
    · exact ⟨_, rfl, (wrote _).endStopping.settle⟩
    · exact ⟨_, rfl, (wrote _).settle⟩
  all_goals cases error

/-- Settles O8: an error by `exec_error_shows`, the other commands by `exec_faultRecord`, the resets by their reset values. -/
theorem linkErrorIsRecorded : Obligations.LinkErrorIsRecorded := by
  refine ⟨fun c s t kind carries completes error => ?_, fun c s u noError soft power next => ?_, fun c s reset => ?_⟩
  · obtain ⟨u, next, record, notice⟩ := exec_error_shows carries completes error
    obtain ⟨count, last⟩ := Prod.mk.inj record
    exact ⟨u, next, by rw [count, satInc_toNat], last, notice⟩
  · exact Prod.mk.inj (exec_faultRecord noError soft power s u next)
  · rcases reset with rfl | rfl <;> exact ⟨_, rfl, rfl, rfl⟩

end Sys2Proof.Machine
end

section
namespace Sys2Proof.Machine

/-! ### One stream: its capacity, and at rest (R143, R148, R150, R153, R156) -/

/-- The stream is in OPEN, STARVED or CLOSING: it can have a chain position, a buffer and a Buffer Record transfer. -/
def StreamWriter.Walks (w : StreamWriter) : Prop :=
  w.phase ≠ .closed ∧ w.phase ≠ .halted

/-- The FIFO is within its capacity; and where `rest` is asked, CLOSED and HALTED leave nothing of the chain, with the counters reported or owed
where `stopping` is, and STARVED holds no buffer. -/
structure StreamWriter.Fits (rest stopping : Prop) (w : StreamWriter) : Prop where
  room : w.fifo.length ≤ 32
  quiet : rest → w.phase = .closed ∨ w.phase = .halted →
    w.position = .none ∧ w.current = none ∧ w.job = .none ∧ (stopping → w.counters = w.reported ∨ w.owed = true)
  starved : rest → w.phase = .starved → w.position ≠ .holding

section
variable {rest stopping : Prop} {w v : StreamWriter}

namespace StreamWriter

theorem Walks.not_quiet (walks : w.Walks) : ¬(w.phase = .closed ∨ w.phase = .halted) :=
  fun quiet => quiet.elim walks.1 walks.2

theorem walks_of_busy (busy : w.phase = .opened ∨ w.phase = .closing) : w.Walks := by
  rcases busy with phase | phase <;> rw [Walks, phase] <;> exact ⟨nofun, nofun⟩

theorem Fits.of_busy (busy : rest → w.phase = .opened ∨ w.phase = .closing) (room : w.fifo.length ≤ 32) : w.Fits rest stopping where
  room := room
  quiet r quiet := absurd quiet (walks_of_busy (busy r)).not_quiet
  starved r phase := by rcases busy r with busy | busy <;> rw [busy] at phase <;> cases phase

theorem Fits.of_starved (starved : w.phase = .starved) (position : w.position ≠ .holding) (room : w.fifo.length ≤ 32) :
    w.Fits rest stopping where
  room := room
  quiet _ quiet := by rw [starved] at quiet; exact quiet.elim nofun nofun
  starved _ _ := position

/-- A stream that walks and keeps its state: only its position counts, and in STARVED alone. -/
theorem Fits.keeps (h : w.Fits rest stopping) (walks : rest → w.Walks) (phase : v.phase = w.phase) (room : v.fifo.length ≤ 32)
    (position : w.phase = .starved → v.position = w.position ∨ v.position ≠ .holding) : v.Fits rest stopping where
  room := room
  quiet r quiet := by rw [phase] at quiet; exact absurd quiet (walks r).not_quiet
  starved r starved := by
    rw [phase] at starved
    rcases position starved with same | other
    · rw [same]
      exact h.starved r starved
    · exact other

theorem Fits.mono {stopping' : Prop} (h : w.Fits rest stopping) (weaker : stopping' → stopping) : w.Fits rest stopping' where
  room := h.room
  starved := h.starved
  quiet r quiet :=
    have ⟨position, current, job, counters⟩ := h.quiet r quiet
    ⟨position, current, job, fun stops => counters (weaker stops)⟩

/-- A stream with a Buffer Record transfer is not at rest. -/
theorem Fits.walks_of_job (h : w.Fits rest stopping) (job : w.job ≠ .none) (r : rest) : w.Walks :=
  ⟨fun closed => job (h.quiet r (.inl closed)).2.2.1, fun halted => job (h.quiet r (.inr halted)).2.2.1⟩

/-! #### Entries (R147, R150, R153) -/

theorem enterClosed_fits (room : w.fifo.length ≤ 32) : w.enterClosed.Fits rest stopping :=
  ⟨room, fun _ _ => ⟨rfl, rfl, rfl, fun _ => .inr rfl⟩, nofun⟩

theorem starveDrain_fits : w.starveDrain.Fits rest stopping :=
  enterClosed_fits (Nat.zero_le _)

theorem enterHalted_fits : w.enterHalted.Fits rest stopping :=
  ⟨Nat.zero_le _, fun _ _ => ⟨rfl, rfl, rfl, fun _ => .inr rfl⟩, nofun⟩

theorem starveOn_fits (room : w.fifo.length ≤ 32) (a : Addr) : (w.starveOn a).Fits rest stopping :=
  .of_starved rfl nofun room

theorem starveAtEnd_fits (room : w.fifo.length ≤ 32) : w.starveAtEnd.Fits rest stopping :=
  .of_starved rfl nofun room

/-! #### Closes, the drain, checks (R145, R146, R148) -/

theorem Fits.beginClose (h : w.Fits rest stopping) (walks : rest → w.Walks) (c : BufferClose) : (w.beginClose c).Fits rest stopping :=
  h.keeps walks rfl h.room fun starved => .inl (if_pos (by simp [starved]))

theorem closeCurrent_keeps (w : StreamWriter) (reason : CloseReason) :
    (w.closeCurrent reason).phase = w.phase ∧ (w.closeCurrent reason).fifo = w.fifo := by
  unfold StreamWriter.closeCurrent
  split <;> exact ⟨rfl, rfl⟩

theorem Fits.closeCurrent (h : w.Fits rest stopping) (reason : CloseReason) : (w.closeCurrent reason).Fits rest stopping := by
  unfold StreamWriter.closeCurrent
  split
  · exact h
  · rename_i b current
    refine h.beginClose (fun r => ⟨fun closed => ?_, fun halted => ?_⟩) _
    · rw [(h.quiet r (.inl closed)).2.1] at current
      cases current
    · rw [(h.quiet r (.inr halted)).2.1] at current
      cases current

theorem drain_fifo (w : StreamWriter) : w.drain.fifo = w.fifo := by
  unfold StreamWriter.drain
  split
  · split
    · rfl
    · split <;> rfl
  · rfl

theorem drain_fits (busy : rest → w.phase = .opened ∨ w.phase = .closing) (room : w.fifo.length ≤ 32) : w.drain.Fits rest stopping :=
  .of_busy (fun r => by rw [w.drain_keeps.1]; exact busy r) (by rw [w.drain_fifo]; exact room)

theorem startCheck_keeps (w : StreamWriter) (head : Addr) :
    (w.startCheck head).phase = w.phase ∧ (w.startCheck head).fifo = w.fifo ∧ (w.startCheck head).position = w.position := by
  unfold StreamWriter.startCheck
  split
  case h_2 => split <;> exact ⟨rfl, rfl, rfl⟩
  all_goals exact ⟨rfl, rfl, rfl⟩

theorem endCheck_keeps (w : StreamWriter) :
    w.endCheck.phase = w.phase ∧ w.endCheck.fifo = w.fifo ∧ w.endCheck.position = w.position := by
  unfold StreamWriter.endCheck
  split
  · exact ⟨rfl, rfl, rfl⟩
  · exact startCheck_keeps _ _

theorem endCheck_fits (starved : w.phase = .starved) (position : w.position ≠ .holding) (room : w.fifo.length ≤ 32) :
    w.endCheck.Fits rest stopping := by
  obtain ⟨phase, fifo, place⟩ := w.endCheck_keeps
  exact .of_starved (phase.trans starved) (place ▸ position) (fifo ▸ room)

/-! #### Fetches (R139, R148 to R150) -/

/-- What makes the write-back owed needs no report of its counters. -/
theorem Fits.owing (h : w.Fits rest False) : ({ w with owed := true } : StreamWriter).Fits rest stopping where
  room := h.room
  starved := h.starved
  quiet r quiet :=
    have ⟨position, current, job, _⟩ := h.quiet r quiet
    ⟨position, current, job, fun _ => .inr rfl⟩

theorem openAt_fits (room : w.fifo.length ≤ 32) (f : StreamFetch) : (w.openAt f).Fits rest stopping := by
  unfold StreamWriter.openAt
  split
  · exact starveAtEnd_fits room
  · exact .of_busy (fun _ => .inl rfl) room

theorem Fits.requestOpen (h : w.Fits rest stopping) (f : StreamFetch) : (w.requestOpen f).Fits rest stopping := by
  unfold StreamWriter.requestOpen
  split
  case h_1 => exact openAt_fits h.room f
  case h_2 phase => exact .of_busy (fun _ => .inl phase) h.room
  case h_3 starved =>
    have walks : w.Walks := by rw [Walks, starved]; exact ⟨nofun, nofun⟩
    split
    · exact h.keeps (fun _ => walks) rfl h.room fun _ => .inl rfl
    · obtain ⟨phase, fifo, position⟩ := (w.setFields f).startCheck_keeps f.head
      exact h.keeps (fun _ => walks) phase (fifo ▸ h.room) fun _ => .inl position
  all_goals exact h

theorem closeStarved_fits (room : w.fifo.length ≤ 32) (head : Addr) : (w.closeStarved head).Fits rest stopping := by
  unfold StreamWriter.closeStarved
  split
  · exact .of_busy (fun _ => .inr rfl) room
  split
  · exact enterClosed_fits room
  split
  · exact .of_busy (fun _ => .inr rfl) room
  · split
    · exact starveDrain_fits
    · exact .of_busy (fun _ => .inr rfl) room
  all_goals exact starveDrain_fits

theorem Fits.requestClose (h : w.Fits rest stopping) (head : Addr) : (w.requestClose head).Fits rest stopping := by
  unfold StreamWriter.requestClose
  split
  case h_2 => exact drain_fits (w := w.enter .closing) (fun _ => .inr rfl) h.room
  case h_3 => exact closeStarved_fits h.room head
  case h_5 => exact enterClosed_fits h.room
  all_goals exact h

theorem Fits.fetch (h : w.Fits rest stopping) (f : StreamFetch) : (w.fetch f).Fits rest stopping := by
  have within : w.Fits rest False := h.mono False.elim
  unfold StreamWriter.fetch
  simp only
  split
  · exact (within.requestOpen f).owing
  · exact (within.requestClose f.head).owing

theorem Fits.stop (h : w.Fits rest stopping) : w.stop.Fits rest stopping := by
  unfold StreamWriter.stop
  split
  case h_1 | h_2 => exact h.requestClose 0
  all_goals exact h

/-! #### The walk along the chain (R141, R146 to R150) -/

theorem Fits.recordNotEmpty (h : w.Fits rest stopping) (a : Addr) : (w.recordNotEmpty a).Fits rest stopping := by
  unfold StreamWriter.recordNotEmpty
  split
  case h_1 => exact starveOn_fits h.room a
  case h_2 => exact starveDrain_fits
  case h_3 phase => exact endCheck_fits phase nofun h.room
  all_goals exact h

theorem Fits.takeRecord (h : w.Fits rest stopping) (job : w.job ≠ .none) (a : Addr) (record : BufferRecord) :
    (w.takeRecord a record).Fits rest stopping := by
  unfold StreamWriter.takeRecord
  split
  · exact enterClosed_fits h.room
  split
  · exact h.recordNotEmpty a
  split
  · exact h.beginClose (h.walks_of_job job) _
  · exact h.keeps (h.walks_of_job job) rfl h.room fun _ => .inl rfl

theorem Fits.holdBuffer (h : w.Fits rest stopping) (job : w.job ≠ .none) (b : HeldBuffer) : (w.holdBuffer b).Fits rest stopping := by
  have walks := h.walks_of_job job
  unfold StreamWriter.holdBuffer
  simp only
  split
  case h_1 => exact .of_busy (fun _ => .inl rfl) h.room
  case h_2 phase => exact .of_busy (fun _ => .inl phase) h.room
  case h_3 phase => exact drain_fits (fun _ => .inr phase) h.room
  case h_4 phase => exact ⟨h.room, fun r _ => absurd phase (walks r).1, fun r _ => absurd phase (walks r).1⟩
  case h_5 phase => exact ⟨h.room, fun r _ => absurd phase (walks r).2, fun r _ => absurd phase (walks r).2⟩

theorem moveOnOpen_fits (opened : w.phase = .opened) (room : w.fifo.length ≤ 32) (next : Addr) : (w.moveOnOpen next).Fits rest stopping := by
  unfold StreamWriter.moveOnOpen
  split
  · exact starveAtEnd_fits room
  · exact .of_busy (fun _ => .inl opened) room

theorem moveOnClosing_fits (closing : w.phase = .closing) (room : w.fifo.length ≤ 32) (next : Addr) :
    (w.moveOnClosing next).Fits rest stopping := by
  unfold StreamWriter.moveOnClosing
  simp only
  split
  · exact enterClosed_fits room
  split
  · exact starveDrain_fits
  · exact .of_busy (fun _ => .inr closing) room

theorem moveOnStarved_fits (starved : w.phase = .starved) (position : rest → w.position ≠ .holding) (room : w.fifo.length ≤ 32) (next : Addr) :
    (w.moveOnStarved next).Fits rest stopping := by
  unfold StreamWriter.moveOnStarved
  split
  · exact endCheck_fits starved nofun room
  · refine ⟨room, fun _ quiet => ?_, fun r _ => position r⟩
    change w.phase = .closed ∨ w.phase = .halted at quiet
    rw [starved] at quiet
    exact quiet.elim nofun nofun

/-- After a completed close: the counts of `closed` leave the stream state and its position. -/
theorem Fits.afterClose (h : w.Fits rest stopping) (job : w.job ≠ .none) (c : BufferClose) : (w.afterClose c).Fits rest stopping := by
  have walks := h.walks_of_job job
  unfold StreamWriter.afterClose
  split
  · exact enterHalted_fits
  unfold StreamWriter.moveOn
  split
  case h_1 phase => exact moveOnOpen_fits phase h.room _
  case h_2 phase => exact moveOnClosing_fits phase h.room _
  case h_3 phase => exact moveOnStarved_fits phase (fun r => h.starved r phase) h.room _
  case h_4 phase => exact h.keeps walks rfl h.room fun _ => .inl rfl
  case h_5 phase => exact h.keeps walks rfl h.room fun _ => .inl rfl

/-! #### Slot writes (R144, R151) -/

theorem closeCurrent_fits (busy : rest → w.phase = .opened ∨ w.phase = .closing) (room : w.fifo.length ≤ 32) (reason : CloseReason) :
    (w.closeCurrent reason).Fits rest stopping := by
  obtain ⟨phase, fifo⟩ := w.closeCurrent_keeps reason
  exact .of_busy (fun r => phase ▸ busy r) (fifo ▸ room)

theorem slotFailed_fits (busy : rest → w.phase = .opened ∨ w.phase = .closing) (room : w.fifo.length ≤ 32) :
    w.slotFailed.Fits rest stopping := by
  unfold StreamWriter.slotFailed
  exact closeCurrent_fits (by exact busy) (by exact room) _

theorem slotWritten_fits (busy : rest → w.phase = .opened ∨ w.phase = .closing) (room : w.fifo.length ≤ 32) (b : HeldBuffer) (now : Time) :
    (w.slotWritten b now).Fits rest stopping := by
  unfold StreamWriter.slotWritten
  simp only
  split
  · exact closeCurrent_fits (by exact busy) (by exact room) _
  split
  · exact closeCurrent_fits (by exact busy) (by exact room) _
  · exact drain_fits (by exact busy) (by exact room)

/-! #### Offers, and the final counts owed in STOPPING (R122, R123, R143, R156) -/

/-- A stream that takes or is withheld a packet moves a count, or in OPEN its FIFO below the capacity. -/
theorem Fits.receive (h : w.Fits rest stopping) (n : StreamId) (found : List FilterEntry) (slot : Slot) :
    (w.receive n found slot).Fits rest False := by
  have counted (c : StreamCounters) : ({ w with counters := c } : StreamWriter).Fits rest False :=
    ⟨h.room, fun r quiet =>
      have ⟨position, current, job, _⟩ := h.quiet r quiet
      ⟨position, current, job, False.elim⟩, h.starved⟩
  unfold StreamWriter.receive
  simp only
  split
  · exact h.mono False.elim
  split
  · exact counted _
  unfold StreamWriter.takeOffer
  split
  case h_1 opened =>
    split
    · rename_i below
      exact .of_busy (fun _ => .inl opened) (by rw [List.length_append]; exact below)
    · exact counted _
  all_goals exact counted _

theorem Fits.oweFinalCounts (h : w.Fits rest False) : w.oweFinalCounts.Fits rest stopping := by
  by_cases owes : (w.phase = .closed ∨ w.phase = .halted) ∧ w.counters ≠ w.reported
  · rw [w.oweFinalCounts_owes.1 owes.1 owes.2]
    exact h.owing
  · have same : w.oweFinalCounts = w := w.oweFinalCounts_owes.2 <| by
      by_cases quiet : w.phase = .closed ∨ w.phase = .halted
      · exact .inr (not_not.1 fun moved => owes ⟨quiet, moved⟩)
      · exact .inl (not_or.1 quiet)
    rw [same]
    refine ⟨h.room, fun r quiet => ?_, h.starved⟩
    have ⟨position, current, job, _⟩ := h.quiet r quiet
    exact ⟨position, current, job, fun _ => .inl (not_not.1 fun moved => owes ⟨quiet, moved⟩)⟩

/-- A write-back issued reports the counters as they stand (R154). -/
theorem Fits.writtenBack (h : w.Fits rest stopping) : ({ w with owed := false, reported := w.counters } : StreamWriter).Fits rest stopping where
  room := h.room
  starved := h.starved
  quiet r quiet :=
    have ⟨position, current, job, _⟩ := h.quiet r quiet
    ⟨position, current, job, fun _ => .inl rfl⟩

/-- A stream that waits to write a slot holds its buffer: it is in OPEN or CLOSING (R162). -/
theorem Fits.busy_of_slotWaiting (h : w.Fits rest stopping) (waits : w.slotWaiting = true) (r : rest) :
    w.phase = .opened ∨ w.phase = .closing := by
  have holding : w.position = .holding := by
    simp only [slotWaiting, Bool.and_eq_true, beq_iff_eq] at waits
    exact waits.1.1
  cases phase : w.phase
  case opened => exact .inl rfl
  case closing => exact .inr rfl
  case starved => exact absurd holding (h.starved r phase)
  case closed =>
    rw [(h.quiet r (.inl phase)).1] at holding
    cases holding
  case halted =>
    rw [(h.quiet r (.inr phase)).1] at holding
    cases holding

end StreamWriter
end

end Sys2Proof.Machine
end

section
namespace Sys2Proof.Machine

/-! ### The part within its capacities (R115, R117, R143, R162, R167) -/

/-- The invariants of the capacities, and, where `rest` is asked, those of the streams at rest. -/
structure CapacitiesFit (rest : Prop) (s : State) : Prop where
  queue : s.router.queue.length ≤ 24
  hand : s.router.inHand = none
  base : BaseAligned s
  streams : ∀ n, (s.stream n).Fits rest (s.link.device = .stopping)
  flying : rest → ∀ n u, s.carries u (.slotWrite n) → (s.stream n).phase = .opened ∨ (s.stream n).phase = .closing

section
variable {rest : Prop} {s t : State} {n : StreamId}

theorem capacitiesFit_iff : CapacitiesFit rest s ↔ QueuesBounded s ∧ BaseAligned s ∧ (rest → StreamsAtRest s) := by
  constructor
  · intro h
    exact ⟨⟨h.queue, h.hand, fun n => (h.streams n).room⟩, h.base, fun r n => ⟨(h.streams n).quiet r, (h.streams n).starved r, h.flying r n⟩⟩
  · rintro ⟨⟨queue, hand, rooms⟩, base, atRest⟩
    exact ⟨queue, hand, base, fun n => ⟨rooms n, fun r => (atRest r n).1, fun r => (atRest r n).2.1⟩, fun r n => (atRest r n).2.2⟩

/-- What the routing of a packet does at each stream (R122, R123, R125). -/
theorem State.route_stream (s : State) (p : Packet) (n : StreamId) :
    (s.route p).stream n = (s.stream n).receive n (matching s.router.active p)
      (slotOf p ((outcomes s.router.active (resetBaselines s.router.active p s.router.baselines) p).contains .isBreak)) := by
  have own : Fin.ofNat 16 n.val = n := Fin.ofNat_val_eq_self n
  simp only [State.stream, State.route, offerToStreams, Fin.getElem_fin, Vec.mapIdx_getElem, own]

theorem StreamWriter.takeOffer_phase (w : StreamWriter) (slot : Slot) : (w.takeOffer slot).phase = w.phase := by
  unfold StreamWriter.takeOffer
  split
  case h_1 => split <;> rfl
  all_goals rfl

theorem StreamWriter.receive_phase (w : StreamWriter) (n : StreamId) (found : List FilterEntry) (slot : Slot) :
    (w.receive n found slot).phase = w.phase := by
  simp only [StreamWriter.receive, StreamWriter.withhold, apply_ite StreamWriter.phase, StreamWriter.takeOffer_phase, ite_self]

theorem State.endRead_port (s : State) (u : Transfer) (error : Bool) (who : FaultRequester) : (s.endRead u error who).arbiter.port = none :=
  congrArg Arbiter.port (s.endRead_frame u error who).1

theorem State.endWrite_port (s : State) (u : Transfer) (result : WriteResult) (who : FaultRequester) :
    (s.endWrite u result who).arbiter.port = none :=
  congrArg Arbiter.port (s.endWrite_frame u result who).1

theorem State.endWrite_stream (s : State) (u : Transfer) (result : WriteResult) (who : FaultRequester) (m : StreamId) :
    (s.endWrite u result who).stream m = s.stream m :=
  (congrArg (fun v : State => v.stream m) (s.endWrite_frame u result who).2 :)

/-! #### The Exchange Base (R167) -/

theorem baseAligned_iff : BaseAligned s ↔ s.link.base.setWidth 12 = 0 := by
  rw [BaseAligned, ← BitVec.toNat_inj, BitVec.toNat_setWidth]
  rfl

/-- The low 12 bits of a base are those of its low half. -/
theorem setWidth_append_low (high low : BitVec 32) : (high ++ low).setWidth 12 = low.setWidth 12 := by
  ext i below
  simp only [BitVec.getElem_setWidth, BitVec.getLsbD_append]
  rw [if_pos (by omega)]

theorem lowHalf_setWidth (value : BitVec 32) : (lowHalf value).setWidth 12 = 0 := by
  have mask : (0xFFFFF000#32).setWidth 12 = 0 := by decide
  rw [lowHalf, BitVec.setWidth_and, mask]
  exact BitVec.and_zero

/-- A transfer that a soft reset abandoned frees the port, its bytes accepted or not, and nothing more comes of it (R166). -/
theorem exec_abandoned {c : Instr} {u : Transfer} (port : s.arbiter.port = some u) (abandoned : u.abandoned = true)
    (completes : ends c u.kind = true) : exec c s = .next s.freePort ∨ exec c s = .next (s.freePort.accept u) := by
  cases c
  case stationBlockReadComplete result | laneSlotReadComplete result | filterBlockReadComplete result | streamRecordReadComplete result
      | bufferRecordReadComplete result =>
    cases own : u.kind <;> rw [own] at completes <;> cases completes
    simp [exec, execStationBlockReadComplete, execLaneSlotReadComplete, execFilterBlockReadComplete, execStreamRecordReadComplete,
      execBufferRecordReadComplete, State.endRead, port, own, abandoned]
  case laneSlotWriteBackComplete result | fillingWriteComplete result | slotWriteComplete result | closingFieldsWriteComplete result
      | markWriteComplete result | emptyMarkWriteComplete result | streamWriteBackComplete result | statusRecordWriteComplete result =>
    cases own : u.kind <;> rw [own] at completes <;> cases completes
    cases result <;>
      simp [exec, execLaneSlotWriteBackComplete, execFillingWriteComplete, execSlotWriteComplete, execClosingFieldsWriteComplete,
        execMarkWriteComplete, execEmptyMarkWriteComplete, execStreamWriteBackComplete, execStatusRecordWriteComplete, State.endWrite, port,
        own, abandoned]
  all_goals exact absurd completes (by simp [ends])

namespace CapacitiesFit

theorem of_parts (h : CapacitiesFit rest s) (queue : t.router.queue = s.router.queue) (hand : t.router.inHand = s.router.inHand)
    (base : t.link.base = s.link.base) (streams : t.streams = s.streams) (device : t.link.device = .stopping → s.link.device = .stopping)
    (carries : ∀ n u, t.carries u (.slotWrite n) → s.carries u (.slotWrite n)) : CapacitiesFit rest t := by
  have stream (n : StreamId) : t.stream n = s.stream n := congrArg (fun w : Vector StreamWriter 16 => w[n]) streams
  exact ⟨queue ▸ h.queue, hand.trans h.hand, (congrArg (fun b : Addr => b.toNat % 4096) base).trans h.base,
    fun n => stream n ▸ (h.streams n).mono device, fun r n u c => stream n ▸ h.flying r n u (carries n u c)⟩

theorem congr (h : CapacitiesFit rest s) (same : t.delivery = s.delivery) : CapacitiesFit rest t :=
  h.of_parts (by rw [State.delivery_router same]) (by rw [State.delivery_router same]) (State.delivery_base same)
    (congrArg (·.2.1) same) (State.delivery_device same ▸ id) fun _ _ ⟨port, kind⟩ => ⟨State.delivery_port same ▸ port, kind⟩

theorem settle (h : CapacitiesFit rest s) : CapacitiesFit rest s.settle := h.congr s.settle_delivery

theorem raiseIf (h : CapacitiesFit rest s) (b : Bool) (c : Cause) : CapacitiesFit rest (s.raiseIf b c) := h.congr (s.raiseIf_delivery b c)

/-! #### Transfers that end (R158, R164 to R166) -/

theorem endRead (h : CapacitiesFit rest s) (u : Transfer) (error : Bool) (who : FaultRequester) : CapacitiesFit rest (s.endRead u error who) := by
  rcases s.endRead_cases u error who with ⟨-, -, same⟩ | ⟨-, same⟩ <;> rw [same] <;>
    exact h.of_parts rfl rfl rfl rfl id fun _ _ => (State.carries_nothing rfl).elim

theorem endWrite (h : CapacitiesFit rest s) (u : Transfer) (result : WriteResult) (who : FaultRequester) :
    CapacitiesFit rest (s.endWrite u result who) := by
  rcases s.endWrite_cases u result who with ⟨-, same⟩ | ⟨-, -, same⟩ | ⟨-, -, same⟩ <;> rw [same] <;>
    exact h.of_parts rfl rfl rfl rfl id fun _ _ => (State.carries_nothing rfl).elim

/-! #### One stream changes -/

theorem setStream {w : StreamWriter} (h : CapacitiesFit rest s) (fits : w.Fits rest (s.link.device = .stopping))
    (flies : s.arbiter.port = none ∨ w.phase = (s.stream n).phase) : CapacitiesFit rest (s.setStream n w) where
  queue := h.queue
  hand := h.hand
  base := h.base
  streams m := by
    rw [State.setStream_stream]
    split
    · exact fits
    · exact h.streams m
  flying r m u carries := by
    have before := h.flying r m u carries
    rw [State.setStream_stream]
    split
    · rename_i own
      subst own
      rcases flies with free | phase
      · exact absurd carries (State.carries_nothing free)
      · exact phase ▸ before
    · exact before

/-- A stream that changes alone once its transfer has ended, with a notice or without, and requests placed. -/
theorem streamMoves {w : StreamWriter} (h : CapacitiesFit rest s) (free : s.arbiter.port = none)
    (fits : w.Fits rest (s.link.device = .stopping)) (b : Bool) (c : Cause) :
    Answers (CapacitiesFit rest) (.next ((s.setStream n w).raiseIf b c).settle) :=
  answers_next.2 ((h.setStream fits (.inl free)).raiseIf b c).settle

theorem haltStream (h : CapacitiesFit rest s) (free : s.arbiter.port = none) (n : StreamId) :
    Answers (CapacitiesFit rest) (.next (s.haltStream n).settle) :=
  h.streamMoves free StreamWriter.enterHalted_fits true .stream

/-! #### The packet gate and the Router (R69, R70, R116, R117, R132) -/

theorem offerToRouter (h : CapacitiesFit rest s) (n : LaneId) (p : Packet) : CapacitiesFit rest (s.offerToRouter n p) := by
  unfold State.offerToRouter
  split
  · rename_i below
    have room : (s.router.queue ++ [p]).length ≤ 24 := by
      rw [List.length_append]
      exact below
    exact ⟨room, h.hand, h.base, h.streams, h.flying⟩
  · exact h.of_parts rfl rfl rfl rfl id fun _ _ => id

theorem execPacketGate (h : CapacitiesFit rest s) (n : LaneId) (packet : Vector Byte 188) (m : Mast) (un : Bool) (cor : Fin 9) :
    Answers (CapacitiesFit rest) (execPacketGate n packet m un cor s) := by
  have counted (f : Lane → Lane) : CapacitiesFit rest (s.modLane n f) := h.congr rfl
  unfold Machine.execPacketGate
  split <;> rw [answers_next]
  · exact h
  · exact h
  · exact counted _
  · exact (counted _).offerToRouter n _
  · exact (counted _).offerToRouter n _

theorem oweFinalCounts (queue : s.router.queue.length ≤ 24) (hand : s.router.inHand = none) (base : BaseAligned s)
    (streams : ∀ n, (s.stream n).Fits rest False)
    (flying : rest → ∀ n u, s.carries u (.slotWrite n) → (s.stream n).phase = .opened ∨ (s.stream n).phase = .closing) :
    CapacitiesFit rest s.oweFinalCounts := by
  have frame := s.oweFinalCounts_frame
  have router : s.oweFinalCounts.router = s.router := (congrArg State.router frame :)
  have link : s.oweFinalCounts.link = s.link := (congrArg State.link frame :)
  have port : s.oweFinalCounts.arbiter.port = s.arbiter.port := (congrArg (fun v : State => v.arbiter.port) frame :)
  refine ⟨router ▸ queue, router ▸ hand, (congrArg (fun l : LinkPort => l.base.toNat % 4096) link).trans base, fun n => ?_,
    fun r n u carries => ?_⟩
  · rw [State.oweFinalCounts_stream, link]
    split
    · exact (streams n).oweFinalCounts
    · rename_i other
      exact (streams n).mono other
  · have before := flying r n u ⟨port ▸ carries.1, carries.2⟩
    rw [State.oweFinalCounts_stream]
    split
    · rw [StreamWriter.oweFinalCounts_phase]
      exact before
    · exact before

theorem execRoutePacket (h : CapacitiesFit rest s) : Answers (CapacitiesFit rest) (execRoutePacket s) := by
  unfold Machine.execRoutePacket
  split
  · exact answers_next.2 h
  · exact answers_next.2 h
  rename_i p queued hand queue
  split
  · exact answers_next.2 h
  refine answers_next.2 (settle (oweFinalCounts ?_ rfl h.base (fun n => ?_) fun r n u carries => ?_))
  · have full := h.queue
    rw [queue] at full
    exact Nat.le_of_succ_le full
  · change (((s.takeHead p queued).route p).stream n).Fits rest False
    rw [State.route_stream]
    exact (h.streams n).receive _ _ _
  · change (((s.takeHead p queued).route p).stream n).phase = .opened ∨ (((s.takeHead p queued).route p).stream n).phase = .closing
    rw [State.route_stream, StreamWriter.receive_phase]
    exact h.flying r n u carries

theorem execFilterSwap (h : CapacitiesFit rest s) : Answers (CapacitiesFit rest) (execFilterSwap s) := by
  unfold Machine.execFilterSwap
  split
  · exact answers_next.2 (settle (h.of_parts rfl rfl rfl rfl id fun _ _ => id))
  · exact answers_next.2 h

/-! #### Grants (R154, R161, R162) -/

theorem granted (h : CapacitiesFit rest s) (granted : Granted s t) : CapacitiesFit rest t := by
  obtain ⟨link, queue, hand, moves⟩ := granted
  have base : BaseAligned t := (congrArg (fun l : LinkPort => l.base.toNat % 4096) link).trans h.base
  cases moves with
  | classOne streams other =>
    refine ⟨queue ▸ h.queue, hand.trans h.hand, base, fun m => ?_, fun _ m u carries => absurd carries (other u m)⟩
    rw [link]
    rcases streams m with same | writtenBack
    · rw [same]
      exact h.streams m
    · rw [writtenBack]
      exact (h.streams m).writtenBack
  | slot n slot waiting waits fifo streams own =>
    have busy := (h.streams n).busy_of_slotWaiting waits
    have room := (h.streams n).room
    have stream (m : StreamId) : t.stream m = (s.setStream n _).stream m := congrArg (fun w : Vector StreamWriter 16 => w[m]) streams
    refine ⟨queue ▸ h.queue, hand.trans h.hand, base, fun m => ?_, fun r m u carries => ?_⟩
    · rw [link, stream m, State.setStream_stream]
      split
      · rw [fifo] at room
        exact .of_busy busy (Nat.le_of_succ_le room)
      · exact h.streams m
    · rw [own u m carries, stream n, State.setStream_stream_self]
      exact busy r

theorem execTransferGrant (h : CapacitiesFit rest s) : Answers (CapacitiesFit rest) (execTransferGrant s) := by
  unfold Machine.execTransferGrant
  split
  · exact answers_next.2 h
  · rename_i free
    exact answers_next.2 (h.granted (.of_grantWith free _ _))

/-! #### Completions (R95, R112, R130, R138 to R154, R170, R174) -/

/-- A completion of no transfer on the link changes nothing, one of an abandoned transfer frees the port; so only one that is handed to its
requester is left to look at. -/
theorem completion {c : Instr} (h : CapacitiesFit rest s) (completes : ∃ k, ends c k = true)
    (handed : ∀ u k, s.carries u k → ends c k = true → Answers (CapacitiesFit rest) (exec c s)) : Answers (CapacitiesFit rest) (exec c s) := by
  by_cases own : ∃ u, s.arbiter.port = some u ∧ ends c u.kind = true
  · obtain ⟨u, port, ends⟩ := own
    cases abandoned : u.abandoned
    · exact handed u u.kind ⟨port, rfl, abandoned⟩ ends
    · rcases exec_abandoned port abandoned ends with next | next <;> rw [next, answers_next] <;>
        exact h.of_parts rfl rfl rfl rfl id fun _ _ => (State.carries_nothing rfl).elim
  · have other : ∀ u, s.arbiter.port = some u → ends c u.kind = false :=
      fun u port => Bool.eq_false_iff.2 fun ends => own ⟨u, port, ends⟩
    rw [exec_completion_of_other completes other, answers_next]
    exact h

theorem streamRecordReadComplete (h : CapacitiesFit rest s) (result : ReadResult 64) :
    Answers (CapacitiesFit rest) (exec (.streamRecordReadComplete result) s) := by
  refine h.completion ⟨.streamRecordRead 0, rfl⟩ fun u k carries completes => ?_
  cases k <;> cases completes
  rename_i n
  obtain ⟨port, own, owned⟩ := carries
  have dropped : CapacitiesFit rest (s.endRead u (result == .error) .planFetcher).dropItem := (h.endRead u _ _).congr rfl
  simp only [exec, execStreamRecordReadComplete, port, own, owned, Bool.false_eq_true, if_false]
  split
  · exact answers_next.2 dropped.settle
  split
  · exact dropped.streamMoves (s.endRead_port _ _ _) ((dropped.streams n).fetch _) _ _
  · exact answers_next.2 dropped.settle

theorem bufferRecordReadComplete (h : CapacitiesFit rest s) (result : ReadResult 32) :
    Answers (CapacitiesFit rest) (exec (.bufferRecordReadComplete result) s) := by
  refine h.completion ⟨.bufferRecordRead 0, rfl⟩ fun u k carries completes => ?_
  cases k <;> cases completes
  rename_i n
  obtain ⟨port, own, owned⟩ := carries
  have ended := h.endRead u (result == .error) (.stream n)
  have free := s.endRead_port u (result == .error) (.stream n)
  simp only [exec, execBufferRecordReadComplete, port, own, owned, Bool.false_eq_true, if_false]
  split
  · exact ended.haltStream free n
  split
  · rename_i job
    exact ended.streamMoves free ((ended.streams n).takeRecord (by rw [job]; exact nofun) _ _) _ _
  · exact answers_next.2 ended.settle

/-- The three writes of a Buffer Record that wait for one another: FILLING, the closing fields, the mark (R141, R146). -/
theorem bufferWriteComplete {c : Instr} {result : WriteResult} (h : CapacitiesFit rest s)
    (write : c = .fillingWriteComplete result ∨ c = .closingFieldsWriteComplete result ∨ c = .markWriteComplete result) :
    Answers (CapacitiesFit rest) (exec c s) := by
  have completes : ∃ k, ends c k = true := by
    rcases write with rfl | rfl | rfl
    · exact ⟨.fillingWrite 0, rfl⟩
    · exact ⟨.closingFieldsWrite 0, rfl⟩
    · exact ⟨.markWrite 0, rfl⟩
  refine h.completion completes fun u k carries completes => ?_
  have ended (n : StreamId) := h.endWrite u result (.stream n)
  have free (n : StreamId) := s.endWrite_port u result (.stream n)
  rcases write with rfl | rfl | rfl <;> cases k <;> cases completes
  all_goals
    rename_i n
    obtain ⟨port, own, owned⟩ := carries
    simp only [exec, execFillingWriteComplete, execClosingFieldsWriteComplete, execMarkWriteComplete, port, own, owned, Bool.false_eq_true,
      if_false]
    split
    · exact (ended n).haltStream (free n) n
    rotate_left
    · exact answers_next.2 (ended n).settle
    rename_i job
    have fits := (ended n).streams n
    have moves : ((s.endWrite u .accepted (.stream n)).stream n).job ≠ .none := by
      rw [job]
      exact nofun
  · exact (ended n).streamMoves (free n) (fits.holdBuffer moves _) false .stream
  · exact answers_next.2 (settle ((ended n).setStream (fits.keeps (fits.walks_of_job moves) rfl fits.room fun _ => .inl rfl) (.inl (free n))))
  · exact answers_next.2 ((((ended n).setStream (fits.afterClose moves _) (.inl (free n))).raiseIf _ _).raiseIf _ _).settle

theorem emptyMarkWriteComplete (h : CapacitiesFit rest s) (result : WriteResult) :
    Answers (CapacitiesFit rest) (exec (.emptyMarkWriteComplete result) s) := by
  refine h.completion ⟨.emptyMarkWrite 0, rfl⟩ fun u k carries completes => ?_
  cases k <;> cases completes
  rename_i n
  obtain ⟨port, own, owned⟩ := carries
  have ended := h.endWrite u result (.stream n)
  have free := s.endWrite_port u result (.stream n)
  simp only [exec, execEmptyMarkWriteComplete, port, own, owned, Bool.false_eq_true, if_false]
  split
  · exact ended.haltStream free n
  · exact ended.streamMoves free (StreamWriter.enterClosed_fits (ended.streams n).room) false .stream

/-- The stream of the slot write that ends is in OPEN or CLOSING. -/
theorem slotWriteComplete (h : CapacitiesFit rest s) (result : WriteResult) :
    Answers (CapacitiesFit rest) (exec (.slotWriteComplete result) s) := by
  refine h.completion ⟨.slotWrite 0, rfl⟩ fun u k carries completes => ?_
  cases k <;> cases completes
  rename_i n
  obtain ⟨port, own, owned⟩ := carries
  have ended := h.endWrite u result (.stream n)
  have free := s.endWrite_port u result (.stream n)
  have room := (ended.streams n).room
  have busy (r : rest) := h.flying r n u ⟨port, own, owned⟩
  rw [← s.endWrite_stream u result (.stream n)] at busy
  simp only [exec, execSlotWriteComplete, port, own, owned, Bool.false_eq_true, if_false]
  split
  · exact ended.streamMoves free (StreamWriter.slotFailed_fits busy room) false .stream
  · exact ended.streamMoves free (StreamWriter.slotWritten_fits busy room _ _) false .stream
  · exact answers_next.2 ended.settle

/-- A write-back that ends moves no stream, whether of a Lane Slot or of a Stream Record (R112, R154). -/
theorem writeBackComplete {c : Instr} {result : WriteResult} (h : CapacitiesFit rest s)
    (write : c = .laneSlotWriteBackComplete result ∨ c = .streamWriteBackComplete result) : Answers (CapacitiesFit rest) (exec c s) := by
  have completes : ∃ k, ends c k = true := by
    rcases write with rfl | rfl
    · exact ⟨.laneSlotWriteBack 0 .taken, rfl⟩
    · exact ⟨.streamWriteBack 0, rfl⟩
  refine h.completion completes fun u k carries completes => ?_
  obtain ⟨port, own, owned⟩ := carries
  rcases write with rfl | rfl <;> cases k <;> cases completes <;>
    simp only [exec, execLaneSlotWriteBackComplete, execStreamWriteBackComplete, port, own, owned, Bool.false_eq_true, if_false]
  · exact answers_next.2 ((h.endWrite _ _ _).raiseIf _ _).settle
  · exact answers_next.2 (h.endWrite _ _ _).settle

theorem laneSlotReadComplete (h : CapacitiesFit rest s) (result : ReadResult 64) :
    Answers (CapacitiesFit rest) (exec (.laneSlotReadComplete result) s) := by
  refine h.completion ⟨.laneSlotRead 0, rfl⟩ fun u k carries completes => ?_
  cases k <;> cases completes
  obtain ⟨port, own, owned⟩ := carries
  have dropped : CapacitiesFit rest (s.endRead u (result == .error) .planFetcher).dropItem := (h.endRead u _ _).congr rfl
  simp only [exec, execLaneSlotReadComplete, port, own, owned, Bool.false_eq_true, if_false]
  split
  · exact answers_next.2 dropped.settle
  · exact answers_next.2 (dropped.congr (State.examineSlot_delivery _ _ _)).settle

theorem takeBlock (h : CapacitiesFit rest s) (j : Fin 8) (block : Vector Byte 256) : CapacitiesFit rest (s.takeBlock j block) := by
  have shadowed (x : Shadow) : CapacitiesFit rest (s.setShadow x) := h.of_parts rfl rfl rfl rfl id fun _ _ => id
  unfold State.takeBlock
  split
  case h_3 => exact shadowed _
  case h_4 => split <;> exact shadowed _
  all_goals exact h

theorem filterBlockReadComplete (h : CapacitiesFit rest s) (result : ReadResult 256) :
    Answers (CapacitiesFit rest) (exec (.filterBlockReadComplete result) s) := by
  refine h.completion ⟨.filterBlockRead 0, rfl⟩ fun u k carries completes => ?_
  cases k <;> cases completes
  obtain ⟨port, own, owned⟩ := carries
  have ended := h.endRead u (result == .error) .planFetcher
  simp only [exec, execFilterBlockReadComplete, port, own, owned, Bool.false_eq_true, if_false]
  split
  · exact answers_next.2 (settle (ended.of_parts rfl rfl rfl rfl id fun _ _ => id))
  split
  · exact answers_next.2 (settle (ended.of_parts rfl rfl rfl rfl id fun _ _ => id))
  · exact answers_next.2 (ended.takeBlock _ _).settle

/-! #### Device states and resets (R169 to R171, R178) -/

theorem finishLoad (h : CapacitiesFit rest s) (block : Vector Byte 256) : CapacitiesFit rest (s.finishLoad block) := by
  unfold State.finishLoad
  split <;> exact h.of_parts rfl rfl rfl rfl nofun fun _ _ => id

theorem stationBlockReadComplete (h : CapacitiesFit rest s) (result : ReadResult 256) :
    Answers (CapacitiesFit rest) (exec (.stationBlockReadComplete result) s) := by
  refine h.completion ⟨.stationBlockRead, rfl⟩ fun u k carries completes => ?_
  cases k <;> cases completes
  obtain ⟨port, own, owned⟩ := carries
  have ended := h.endRead u (result == .error) .planFetcher
  simp only [exec, execStationBlockReadComplete, port, own, owned, Bool.false_eq_true, if_false]
  split
  · split
    · exact answers_next.2 (settle (ended.of_parts rfl rfl rfl rfl nofun fun _ _ => id))
    · exact answers_next.2 (ended.finishLoad _).settle
  · exact answers_next.2 ended.settle

theorem endStopping (h : CapacitiesFit rest s) : CapacitiesFit rest s.endStopping := by
  unfold State.endStopping
  simp only
  split <;> exact h.of_parts rfl rfl rfl rfl nofun fun _ _ => id

theorem statusRecordWriteComplete (h : CapacitiesFit rest s) (result : WriteResult) :
    Answers (CapacitiesFit rest) (exec (.statusRecordWriteComplete result) s) := by
  refine h.completion ⟨.statusRecordWrite .station, rfl⟩ fun u k carries completes => ?_
  cases k <;> cases completes
  obtain ⟨port, own, owned⟩ := carries
  have ended := h.endWrite u result .statusWriter
  simp only [exec, execStatusRecordWriteComplete, port, own, owned, Bool.false_eq_true, if_false]
  split
  · exact answers_next.2 ended.endStopping.settle
  · exact answers_next.2 ended.settle

theorem setRun (h : CapacitiesFit rest s) (run : Bool) : CapacitiesFit rest (s.setRun run) :=
  h.of_parts rfl rfl rfl rfl id fun _ _ => id

theorem execRunSet (h : CapacitiesFit rest s) : Answers (CapacitiesFit rest) (execRunSet s) := by
  unfold Machine.execRunSet
  split <;> rw [answers_next]
  case h_1 => exact settle (h.of_parts rfl rfl rfl rfl nofun fun _ _ => id)
  all_goals exact h.setRun true

/-- At the start of STOPPING the streams take a CLOSE, and those at rest owe the counts not reported. -/
theorem enterStopping (h : CapacitiesFit rest s) : CapacitiesFit rest s.enterStopping := by
  rw [s.enterStopping_eq]
  refine ⟨h.queue, h.hand, h.base, fun n => ?_, fun r n u carries => ?_⟩
  · rw [State.stopped_stream]
    exact ((h.streams n).mono False.elim).stop.oweFinalCounts
  · rw [State.stopped_stream, StreamWriter.oweFinalCounts_phase]
    rcases h.flying r n u carries with opened | closing
    · simp only [StreamWriter.stop, StreamWriter.requestClose, opened]
      exact .inr ((s.stream n).enter .closing).drain_keeps.1
    · rw [StreamWriter.stop_stays (.inl closing)]
      exact .inr closing

theorem execRunClear (h : CapacitiesFit rest s) : Answers (CapacitiesFit rest) (execRunClear s) := by
  have stopped := h.setRun false
  unfold Machine.execRunClear
  split <;> rw [answers_next]
  · exact stopped
  · exact stopped.of_parts rfl rfl rfl rfl nofun fun _ _ => id
  · exact stopped.enterStopping.settle
  · exact stopped
  · exact stopped.of_parts rfl rfl rfl rfl nofun fun _ _ => id

/-- After a reset every stream is as at reset, and nothing on the port is handed to one. -/
theorem of_reset (router : t.router = State.reset.router) (streams : t.streams = State.reset.streams) (base : BaseAligned t)
    (device : t.link.device = .idle) (abandoned : ∀ u k, ¬t.carries u k) : CapacitiesFit rest t := by
  have stream (n : StreamId) : t.stream n = .reset :=
    (congrArg (fun w : Vector StreamWriter 16 => w[n]) streams).trans (State.reset_stream n)
  refine ⟨router ▸ Nat.zero_le _, router ▸ rfl, base, fun n => ?_, fun _ n u carries => absurd carries (abandoned u _)⟩
  rw [stream, device]
  exact ⟨Nat.zero_le _, fun _ _ => ⟨rfl, rfl, rfl, nofun⟩, nofun⟩

theorem softReset (h : CapacitiesFit rest s) : Answers (CapacitiesFit rest) (exec .softReset s) := by
  refine answers_next.2 (of_reset rfl rfl h.base rfl fun u k ⟨port, _, owned⟩ => ?_)
  obtain ⟨v, -, rfl⟩ := Option.map_eq_some_iff.1 port
  cases owned

theorem powerOnReset : Answers (CapacitiesFit rest) (exec .powerOnReset s) :=
  answers_next.2 (of_reset rfl rfl rfl rfl fun _ _ => State.carries_nothing rfl)

/-! #### The register window (R131, R167) -/

theorem exchangeBase (h : CapacitiesFit rest s) {c : Instr} {value : BitVec 32}
    (write : c = .exchangeBaseLow value ∨ c = .exchangeBaseHigh value) : Answers (CapacitiesFit rest) (exec c s) := by
  have based {base : Addr} (aligned : base.setWidth 12 = 0) : CapacitiesFit rest (s.setBase base) :=
    ⟨h.queue, h.hand, baseAligned_iff.2 aligned, h.streams, h.flying⟩
  have before := baseAligned_iff.1 h.base
  rcases write with rfl | rfl
  · dsimp only [Machine.exec, execExchangeBaseLow]
    split
    · exact answers_next.2 (based ((setWidth_append_low _ _).trans (lowHalf_setWidth value)))
    · exact answers_next.2 h
  · dsimp only [Machine.exec, execExchangeBaseHigh]
    split
    · refine answers_next.2 (based ((setWidth_append_low _ _).trans ?_))
      rw [← before]
      ext i below
      simp only [BitVec.getElem_setWidth, BitVec.getLsbD_extractLsb', Nat.zero_add]
      rw [decide_eq_true (by omega), Bool.true_and]
    · exact answers_next.2 h

theorem attentionFilter (h : CapacitiesFit rest s) : Answers (CapacitiesFit rest) (exec .attentionFilter s) := by
  have named : CapacitiesFit rest s.nameFilter := by
    unfold State.nameFilter
    split
    case h_3 => split <;> exact h.of_parts rfl rfl rfl rfl id fun _ _ => id
    all_goals exact h.congr rfl
  dsimp only [exec, execAttentionFilter]
  split
  · exact answers_next.2 named.settle
  · exact answers_next.2 h

/-- A flush expiry leaves the stream state, so that a slot write in flight stays where it may be (R145). -/
theorem execFlushTimerExpiry (h : CapacitiesFit rest s) (n : StreamId) : Answers (CapacitiesFit rest) (execFlushTimerExpiry n s) := by
  have fits := h.streams n
  have stopped (waits : Bool) : StreamWriter.Fits rest (s.link.device = .stopping)
      { s.stream n with flushTimer := none, flushWaits := waits } := ⟨fits.room, fits.quiet, fits.starved⟩
  unfold Machine.execFlushTimerExpiry
  simp only
  split
  · split
    · exact answers_next.2 (h.setStream (stopped true) (.inr rfl))
    · exact answers_next.2 (settle (h.setStream (StreamWriter.Fits.closeCurrent (stopped _) .flush) (.inr (StreamWriter.closeCurrent_keeps _ _).1)))
  · exact answers_next.2 h

/-! #### Every command -/

theorem exec (h : CapacitiesFit rest s) (c : Instr) : Answers (CapacitiesFit rest) (exec c s) := by
  cases spares : Instr.sparesDelivery c
  case true => exact (exec_delivery spares s).imp fun t same => h.congr same
  cases c
  case packetGate => exact h.execPacketGate _ _ _ _ _
  case routePacket => exact h.execRoutePacket
  case filterSwap => exact h.execFilterSwap
  case flushTimerExpiry => exact h.execFlushTimerExpiry _
  case transferGrant => exact h.execTransferGrant
  case stationBlockReadComplete => exact h.stationBlockReadComplete _
  case laneSlotReadComplete => exact h.laneSlotReadComplete _
  case laneSlotWriteBackComplete => exact h.writeBackComplete (.inl rfl)
  case filterBlockReadComplete => exact h.filterBlockReadComplete _
  case streamRecordReadComplete => exact h.streamRecordReadComplete _
  case bufferRecordReadComplete => exact h.bufferRecordReadComplete _
  case fillingWriteComplete => exact h.bufferWriteComplete (.inl rfl)
  case slotWriteComplete => exact h.slotWriteComplete _
  case closingFieldsWriteComplete => exact h.bufferWriteComplete (.inr (.inl rfl))
  case markWriteComplete => exact h.bufferWriteComplete (.inr (.inr rfl))
  case emptyMarkWriteComplete => exact h.emptyMarkWriteComplete _
  case streamWriteBackComplete => exact h.writeBackComplete (.inr rfl)
  case statusRecordWriteComplete => exact h.statusRecordWriteComplete _
  case runSet => exact h.execRunSet
  case runClear => exact h.execRunClear
  case softReset => exact h.softReset
  case powerOnReset => exact powerOnReset
  case exchangeBaseLow => exact h.exchangeBase (.inl rfl)
  case exchangeBaseHigh => exact h.exchangeBase (.inr rfl)
  case attentionFilter => exact h.attentionFilter
  all_goals cases spares

theorem step (h : CapacitiesFit rest s) : Answers (CapacitiesFit rest) (step s) := by
  unfold Machine.step
  split
  · exact answers_next.2 h
  · refine exec ?_ _
    exact h.congr rfl

end CapacitiesFit
end

/-- Settles O51: `CapacitiesFit.step`, with the streams asked to be at rest afterwards exactly when they were before. -/
theorem capacitiesKept : Obligations.CapacitiesKept := by
  intro s t bounded aligned stepped
  exact capacitiesFit_iff.1 (CapacitiesFit.step (capacitiesFit_iff.2 ⟨bounded, aligned, id⟩) t stepped)

end Sys2Proof.Machine
end

section
namespace Sys2Proof.Machine

/-! PROOFS. The Packet Router (spec/07): what an entry checks and what a check finds (R119, R126, R128), the routing of one packet (R117, R121 to
R129), the swap (R132, R133), the loading of the Filter Table (R120, R130, R131, R134, R135). -/

/-! ### A packet's header (R119) -/

theorem packetPid_eq (bytes : Vector Byte 188) : packetPid bytes = bytes[1].toNat % 32 * 256 + bytes[2].toNat := by
  rw [packetPid, field_one bytes 1 (by decide), field_one bytes 2 (by decide)]

theorem packetHasPayload_eq (bytes : Vector Byte 188) : packetHasPayload bytes = bytes[3].getLsbD 4 := by
  rw [packetHasPayload, byteAt_eq_getElem bytes 3 (by decide)]

theorem packetContinuity_toNat (bytes : Vector Byte 188) : (packetContinuity bytes).toNat = bytes[3].toNat % 16 := by
  rw [packetContinuity, byteAt_eq_getElem bytes 3 (by decide), BitVec.toNat_setWidth]

/-! ### Checking entries (R126) -/

theorem laneCount_eq_one_iff (mask : BitVec 12) :
    laneCount mask = 1 ↔ ∃ n : LaneId, ∀ m : LaneId, mask.getLsbD m.val = decide (m = n) := by
  rw [laneCount, List.length_eq_one_iff]
  refine exists_congr fun n => ⟨fun single m => ?_, fun only => ?_⟩
  · have member : m ∈ allLanes.filter (fun m => mask.getLsbD m.val) ↔ m = n := by rw [single, List.mem_singleton]
    rw [Bool.eq_iff_iff, decide_eq_true_iff, ← member, List.mem_filter]
    exact ⟨fun set => ⟨mem_allLanes m, set⟩, And.right⟩
  · have alone : ∀ n : LaneId, (allLanes.filter fun m => decide (m = n)) = [n] := by decide
    rw [List.filter_congr fun m _ => only m]
    exact alone n

theorem FilterEntry.isChecking_iff (e : FilterEntry) : e.isChecking = true ↔
    e.checkContinuity = true ∧ e.exponent = 0 ∧ ∃ n : LaneId, ∀ m : LaneId, e.lanes.getLsbD m.val = decide (m = n) := by
  rw [FilterEntry.isChecking, Bool.and_eq_true, Bool.and_eq_true, beq_iff_eq, beq_iff_eq, laneCount_eq_one_iff, and_assoc]

theorem FilterEntry.accepts_iff (e : FilterEntry) (p : Packet) : e.accepts p = true ↔
    e.lanes.getLsbD p.lane.val = true ∧ e.base ≤ packetPid p.bytes ∧ packetPid p.bytes < e.base + 2 ^ e.exponent := by
  simp only [FilterEntry.accepts, FilterEntry.windowContains, Bool.and_eq_true, decide_eq_true_iff]

/-! ### One check (R128) -/

section
variable {p : Packet} {entry : Option FilterEntry} {e : FilterEntry} {baseline : Option (BitVec 4)}

theorem nextBaseline_of_unchecked (unchecked : entryOutcome p entry baseline = .unchecked) : nextBaseline p entry baseline = baseline :=
  if_pos unchecked

theorem entryOutcome_of_idle (idle : ∀ e, entry = some e → e.isChecking = true → e.accepts p = false) :
    entryOutcome p entry baseline = .unchecked := by
  unfold entryOutcome
  split
  · rfl
  · rename_i e
    rw [if_neg]
    intro checks
    simp only [Bool.and_eq_true] at checks
    obtain ⟨⟨checking, accepted⟩, -⟩ := checks
    rw [idle e rfl checking] at accepted
    cases accepted

theorem entryOutcome_of_unqualified (other : qualifies p = false) : entryOutcome p (some e) baseline = .unchecked :=
  if_neg (by rw [other, Bool.and_false]; exact Bool.false_ne_true)

theorem entryOutcome_of_checking (checking : e.isChecking = true) (accepted : e.accepts p = true) (qualified : qualifies p = true) :
    entryOutcome p (some e) baseline = continuityOutcome baseline (packetContinuity p.bytes) :=
  if_pos (by rw [checking, accepted, qualified]; rfl)

theorem continuityOutcome_checked (baseline : Option (BitVec 4)) (c : BitVec 4) : continuityOutcome baseline c ≠ .unchecked := by
  unfold continuityOutcome
  split
  · exact nofun
  · split
    · exact nofun
    · split <;> exact nofun

/-- A 4-bit number is the successor of another exactly when it is modulo 16. -/
theorem eq_succ_iff (b c : BitVec 4) : c = b + 1 ↔ c.toNat = (b.toNat + 1) % 16 := by
  rw [← BitVec.toNat_inj, BitVec.toNat_add]
  rfl

theorem ne_succ (b : BitVec 4) : b ≠ b + 1 := by
  revert b
  decide

end

/-- Settles O34: which entries check by `FilterEntry.isChecking_iff`, a check by `entryOutcome_of_checking` and the four outcomes of R128. -/
theorem continuityCheck : Obligations.ContinuityCheck := by
  refine ⟨fun bytes => ⟨packetPid_eq bytes, packetHasPayload_eq bytes, packetContinuity_toNat bytes⟩, FilterEntry.isChecking_iff,
    fun entry p baseline idle => ?_, fun e p baseline checking accepted => ⟨fun other => ?_, fun correctable payload => ?_⟩⟩
  · have unchecked : entryOutcome p entry baseline = .unchecked := entryOutcome_of_idle idle
    exact ⟨unchecked, nextBaseline_of_unchecked unchecked⟩
  · have unchecked : entryOutcome p (some e) baseline = .unchecked :=
      entryOutcome_of_unqualified (by rcases other with h | h <;> simp [qualifies, h])
    exact ⟨unchecked, nextBaseline_of_unchecked unchecked⟩
  · have outcome := entryOutcome_of_checking (baseline := baseline) checking accepted (by simp [qualifies, correctable, payload])
    have moves : nextBaseline p (some e) baseline = some (packetContinuity p.bytes) :=
      if_neg (by rw [outcome]; exact continuityOutcome_checked _ _)
    rw [outcome]
    refine ⟨moves, ?_, ?_⟩
    · rintro rfl
      rfl
    · rintro b rfl
      refine ⟨fun succ => if_pos ((eq_succ_iff _ _).2 succ), fun same => ?_, fun other moved => ?_⟩
      · rw [same, continuityOutcome, if_neg (ne_succ b), if_pos rfl]
      · rw [continuityOutcome, if_neg (mt (eq_succ_iff _ _).1 other), if_neg moved]

/-! ### The entries that match (R121) and the checks of a packet (R127, R128) -/

theorem mem_matching {table : FilterTable} {p : Packet} {e : FilterEntry} :
    e ∈ matching table p ↔ some e ∈ table.toList ∧ e.accepts p = true := by
  simp [matching, List.mem_filterMap, List.mem_filter, entryMatches]

theorem outcomes_length (table : FilterTable) (baselines : Vector (Option (BitVec 4)) 256) (p : Packet) :
    (outcomes table baselines p).length = 256 := by
  simp [outcomes]

theorem outcomes_getElem? (table : FilterTable) (baselines : Vector (Option (BitVec 4)) 256) (p : Packet) (i : Fin 256) :
    (outcomes table baselines p)[i.val]? = some (entryOutcome p table[i] baselines[i]) := by
  simp [outcomes]

theorem checksLane_iff {n : LaneId} {entry : Option FilterEntry} :
    checksLane n entry = true ↔ ∃ e, entry = some e ∧ e.isChecking = true ∧ e.lanes.getLsbD n.val = true := by
  cases entry <;> simp [checksLane]

/-- A first-after-lock packet drops the baselines of its lane's checking entries and no other (R127). -/
theorem resetBaselines_getElem (table : FilterTable) (p : Packet) (baselines : Vector (Option (BitVec 4)) 256) (i : Fin 256) :
    (resetBaselines table p baselines)[i] =
      if p.firstAfterLock = true ∧ checksLane p.lane table[i] = true then none else baselines[i] := by
  unfold resetBaselines
  cases p.firstAfterLock <;> simp

/-! ### The packet at one stream (R122, R123, R125) -/

section
variable {w : StreamWriter} {n : StreamId} {found : List FilterEntry} {slot : Slot}

theorem StreamWriter.receive_unnamed (unnamed : ∀ e ∈ found, e.target ≠ n) : w.receive n found slot = w := by
  have none : found.filter (fun e => e.target == n) = [] := List.filter_eq_nil_iff.2 fun e member => by simpa using unnamed e member
  rw [StreamWriter.receive, none]
  rfl

theorem StreamWriter.receive_named {e : FilterEntry} (member : e ∈ found) (target : e.target = n) :
    w.receive n found slot =
      if slot.uncorrectable && (found.filter fun e => e.target == n).any FilterEntry.dropErrored then w.withhold else w.takeOffer slot := by
  have some : ¬ (found.filter fun e => e.target == n).isEmpty = true := by
    simp only [List.isEmpty_iff, List.filter_eq_nil_iff]
    intro none
    exact none e member (by simp [target])
  exact if_neg some

theorem StreamWriter.receive_withheld {e : FilterEntry} (member : e ∈ found) (target : e.target = n) (drops : e.dropErrored = true)
    (errored : slot.uncorrectable = true) : w.receive n found slot = w.withhold := by
  rw [StreamWriter.receive_named member target, if_pos]
  simp only [errored, Bool.true_and, List.any_eq_true, List.mem_filter, beq_iff_eq]
  exact ⟨e, ⟨member, target⟩, drops⟩

theorem StreamWriter.receive_offered {e : FilterEntry} (member : e ∈ found) (target : e.target = n)
    (passes : slot.uncorrectable = false ∨ ∀ e ∈ found, e.target = n → e.dropErrored = false) : w.receive n found slot = w.takeOffer slot := by
  rw [StreamWriter.receive_named member target, if_neg]
  simp only [Bool.and_eq_true, List.any_eq_true, List.mem_filter, beq_iff_eq]
  rintro ⟨errored, d, ⟨found, own⟩, drops⟩
  rcases passes with correctable | none
  · rw [correctable] at errored
    cases errored
  · rw [none d found own] at drops
    cases drops

end

/-! ### The command (R117, R156) -/

section
variable {s : State} {p : Packet} {rest : List Packet}

/-- The part with the packet routed: it has left the queue, and none is in hand. -/
def State.routed (s : State) (p : Packet) (rest : List Packet) : State :=
  ((s.takeHead p rest).route p).endRouting

theorem State.routed_stream (s : State) (p : Packet) (rest : List Packet) (n : StreamId) :
    (s.routed p rest).stream n = (s.stream n).receive n (matching s.router.active p)
      (slotOf p ((outcomes s.router.active (resetBaselines s.router.active p s.router.baselines) p).contains .isBreak)) :=
  (s.takeHead p rest).route_stream p n

theorem Shadow.isReady_iff {shadow : Shadow} : shadow.isReady = true ↔ ∃ table, shadow = .ready table := by
  cases shadow <;> simp [Shadow.isReady]

theorem execRoutePacket_ready {table : FilterTable} (ready : s.router.shadow = .ready table) : exec .routePacket s = .next s := by
  simp only [exec, execRoutePacket]
  split
  · rfl
  · rfl
  · exact if_pos (Shadow.isReady_iff.2 ⟨table, ready⟩)

theorem execRoutePacket_routes (hand : s.router.inHand = none) (queue : s.router.queue = p :: rest)
    (notReady : ∀ table, s.router.shadow ≠ .ready table) : exec .routePacket s = .next (s.routed p rest).oweFinalCounts.settle := by
  have swapped : ¬s.router.shadow.isReady = true := fun ready =>
    have ⟨table, same⟩ := Shadow.isReady_iff.1 ready
    notReady table same
  simp only [exec, execRoutePacket, hand, queue, if_neg swapped]
  rfl

theorem State.oweFinalCounts_eq (s : State) : s.oweFinalCounts = { s with streams := s.oweFinalCounts.streams } := by
  unfold State.oweFinalCounts
  split <;> rfl

end

end Sys2Proof.Machine
end

section
namespace Sys2Proof.Machine

/-! ### What the routing of a packet leaves (R117, R121 to R129, R132, R156) -/

section
variable {s : State} {p : Packet} {rest : List Packet}

/-- The baselines a routed packet is checked against: those of its lane's checking entries are dropped at a first-after-lock packet (R127). -/
def State.freshBaselines (s : State) (p : Packet) : Vector (Option (BitVec 4)) 256 :=
  resetBaselines s.router.active p s.router.baselines

/-- The outcomes of the checks of a routed packet, one for each position (R128). -/
def State.checks (s : State) (p : Packet) : List Continuity :=
  outcomes s.router.active (s.freshBaselines p) p

theorem State.freshBaselines_dropped {i : Fin 256} (first : p.firstAfterLock = true)
    (checks : ∃ e, s.router.active[i] = some e ∧ e.isChecking = true ∧ e.lanes.getLsbD p.lane.val = true) :
    (s.freshBaselines p)[i] = none := by
  rw [State.freshBaselines, resetBaselines_getElem, if_pos ⟨first, checksLane_iff.2 checks⟩]

theorem State.freshBaselines_kept {i : Fin 256} (kept : p.firstAfterLock = false ∨
    ∀ e, s.router.active[i] = some e → e.isChecking = true → e.lanes.getLsbD p.lane.val = false) :
    (s.freshBaselines p)[i] = s.router.baselines[i] := by
  rw [State.freshBaselines, resetBaselines_getElem, if_neg]
  rintro ⟨first, checks⟩
  obtain ⟨e, valid, checking, lane⟩ := checksLane_iff.1 checks
  rcases kept with later | none
  · rw [first] at later
    cases later
  · rw [none e valid checking] at lane
    cases lane

/-- Nothing but the streams and the Router's counts, queue and baselines is changed. -/
theorem State.routed_eq (hand : s.router.inHand = none) : (s.routed p rest).oweFinalCounts = { s with
    streams := (s.routed p rest).oweFinalCounts.streams
    router := { s.router with
      queue := rest
      baselines := Vec.zipWith (nextBaseline p) s.router.active (s.freshBaselines p)
      breaks := satAdd s.router.breaks ((s.checks p).count .isBreak)
      repeats := satAdd s.router.repeats ((s.checks p).count .isRepeat)
      unmatched := if (matching s.router.active p).isEmpty then satInc s.router.unmatched else s.router.unmatched } } := by
  refine (State.oweFinalCounts_eq _).trans ?_
  simp only [hand]
  rfl

/-- In STOPPING a routed packet is followed by what the streams at rest owe, and else by nothing (R156). -/
theorem State.routed_owes (s : State) (p : Packet) (rest : List Packet) (n : StreamId) :
    (s.link.device = .stopping → OwesFinalCounts ((s.routed p rest).stream n) ((s.routed p rest).oweFinalCounts.stream n)) ∧
      (s.link.device ≠ .stopping → (s.routed p rest).oweFinalCounts.stream n = (s.routed p rest).stream n) := by
  rw [State.oweFinalCounts_stream]
  refine ⟨fun stopping => ?_, fun other => if_neg other⟩
  rw [if_pos (by exact stopping)]
  exact StreamWriter.oweFinalCounts_owes _

theorem isEmpty_matching_iff : (matching s.router.active p).isEmpty = true ↔ ∀ e, some e ∈ s.router.active.toList → e.accepts p = false := by
  simp only [List.isEmpty_iff, List.eq_nil_iff_forall_not_mem, mem_matching, not_and, Bool.not_eq_true]

end

/-- Settles O36: `execRoutePacket_routes` gives the next state; the parts of it are described position by position and stream by stream. -/
theorem routePacketReachesTargets : Obligations.RoutePacketReachesTargets := by
  refine ⟨fun s table => execRoutePacket_ready, fun s p rest hand queue notReady => ?_⟩
  refine ⟨s.freshBaselines p, Vec.zipWith (nextBaseline p) s.router.active (s.freshBaselines p), s.checks p, (s.routed p rest).streams,
    (s.routed p rest).oweFinalCounts.streams, if (matching s.router.active p).isEmpty then satInc s.router.unmatched else s.router.unmatched,
    ?next, fun i => ⟨State.freshBaselines_dropped, State.freshBaselines_kept⟩, outcomes_length _ _ p, outcomes_getElem? _ _ p, fun i => ?moves,
    fun i idle => ?idle, fun ⟨e, valid, accepted⟩ => ?matched, fun none => if_pos (isEmpty_matching_iff.2 none), fun e => e.accepts_iff p,
    fun n => ⟨(s.routed_owes p rest n).1, (s.routed_owes p rest n).2, fun unnamed => ?unnamed, fun errored ⟨e, valid, accepted, target, drops⟩ => ?withheld,
      fun ⟨e, valid, accepted, target⟩ passes => ?offered⟩⟩
  case next =>
    rw [← State.routed_eq hand]
    exact .of_settle (execRoutePacket_routes hand queue notReady)
  case moves => exact Vec.zipWith_getElem ..
  case idle =>
    have unchecked : entryOutcome p s.router.active[i] (s.freshBaselines p)[i] = .unchecked := entryOutcome_of_idle idle
    exact ⟨(outcomes_getElem? _ _ p i).trans (congrArg some unchecked), (Vec.zipWith_getElem ..).trans (nextBaseline_of_unchecked unchecked)⟩
  case matched =>
    refine if_neg fun none => ?_
    rw [isEmpty_matching_iff.1 none e valid] at accepted
    cases accepted
  case unnamed =>
    refine (s.routed_stream p rest n).trans (StreamWriter.receive_unnamed fun e member => ?_)
    obtain ⟨valid, accepted⟩ := mem_matching.1 member
    exact unnamed e valid accepted
  case withheld =>
    exact (s.routed_stream p rest n).trans (StreamWriter.receive_withheld (mem_matching.2 ⟨valid, accepted⟩) target drops errored)
  case offered =>
    refine (s.routed_stream p rest n).trans (StreamWriter.receive_offered (mem_matching.2 ⟨valid, accepted⟩) target ?_)
    refine passes.imp_right fun none e member => ?_
    obtain ⟨valid, accepted⟩ := mem_matching.1 member
    exact none e valid accepted

/-! ### The ledger of a stream (R155) -/

section
variable {w : StreamWriter} {n : StreamId} {found : List FilterEntry} {slot : Slot}

theorem satInc_toNat_of_lt {c : Counter} (room : c.toNat < 4294967295) : (satInc c).toNat = c.toNat + 1 := by
  rw [satInc_toNat]
  omega

/-- None of the counts that a packet at the Router can move is saturated. -/
structure StreamWriter.HasRoom (w : StreamWriter) : Prop where
  droppedFifo : w.counters.droppedFifo.toNat < 4294967295
  droppedStarved : w.counters.droppedStarved.toNat < 4294967295
  droppedClosed : w.counters.droppedClosed.toNat < 4294967295
  withheld : w.counters.withheld.toNat < 4294967295

theorem StreamWriter.HasRoom.withhold_ledger (room : w.HasRoom) : w.withhold.ledger = w.ledger + 1 := by
  simp only [StreamWriter.withhold, StreamWriter.ledger, satInc_toNat_of_lt room.withheld]
  omega

theorem StreamWriter.HasRoom.takeOffer_ledger (room : w.HasRoom) (slot : Slot) : (w.takeOffer slot).ledger = w.ledger + 1 := by
  have closed := satInc_toNat_of_lt room.droppedClosed
  cases phase : w.phase with
  | opened =>
    simp only [StreamWriter.takeOffer, phase]
    split
    · simp only [StreamWriter.ledger, List.length_append, List.length_singleton]
      omega
    · simp only [StreamWriter.ledger, satInc_toNat_of_lt room.droppedFifo]
      omega
  | starved =>
    simp only [StreamWriter.takeOffer, phase, StreamWriter.ledger, satInc_toNat_of_lt room.droppedStarved]
    omega
  | closed | closing | halted =>
    simp only [StreamWriter.takeOffer, phase, StreamWriter.ledger, closed]
    omega

theorem StreamWriter.HasRoom.receive_ledger (room : w.HasRoom) {e : FilterEntry} (member : e ∈ found) (target : e.target = n) :
    (w.receive n found slot).ledger = w.ledger + 1 := by
  rw [StreamWriter.receive_named member target]
  split
  · exact room.withhold_ledger
  · exact room.takeOffer_ledger slot

theorem StreamWriter.oweFinalCounts_ledger (w : StreamWriter) : w.oweFinalCounts.ledger = w.ledger := by
  rcases w.oweFinalCounts_cases with same | owes
  · rw [same]
  · rw [owes]
    rfl

theorem State.oweFinalCounts_ledger (s : State) (n : StreamId) : (s.oweFinalCounts.stream n).ledger = (s.stream n).ledger := by
  rw [State.oweFinalCounts_stream]
  split
  · exact StreamWriter.oweFinalCounts_ledger _
  · rfl

end

/-- Settles O37: what a stream owes is no part of its ledger, so `receive` alone can move it. -/
theorem routedPacketEntersLedgerOnce : Obligations.RoutedPacketEntersLedgerOnce := by
  intro s t p rest n hand queue notReady next fifo starved closed withheld
  obtain rfl : (s.routed p rest).oweFinalCounts.settle = t := Host.Outcome.next.inj ((execRoutePacket_routes hand queue notReady).symm.trans next)
  have room : (s.stream n).HasRoom := ⟨fifo, starved, closed, withheld⟩
  rw [State.settle_stream, State.oweFinalCounts_ledger, State.routed_stream]
  refine ⟨fun ⟨e, valid, accepted, target⟩ => room.receive_ledger (mem_matching.2 ⟨valid, accepted⟩) target, fun unnamed => ?_⟩
  rw [StreamWriter.receive_unnamed fun e member => ?_]
  obtain ⟨valid, accepted⟩ := mem_matching.1 member
  exact unnamed e valid accepted

/-! ### The swap (R132, R133) -/

theorem carryBaseline_eq_some_iff {new old : Option FilterEntry} {baseline : Option (BitVec 4)} {b : BitVec 4} :
    carryBaseline new old baseline = some b ↔ baseline = some b ∧ ∃ e, new = some e ∧ old = some e ∧ e.isChecking = true := by
  cases new with
  | none => simp [carryBaseline]
  | some e =>
    simp only [carryBaseline, Bool.and_eq_true, beq_iff_eq, Option.ite_none_right_eq_some, Option.some.injEq, exists_eq_left']
    exact ⟨fun ⟨⟨checking, same⟩, kept⟩ => ⟨kept, same, checking⟩, fun ⟨kept, same, checking⟩ => ⟨⟨checking, same⟩, kept⟩⟩

theorem execFilterSwap_swaps {s : State} {table : FilterTable} (ready : s.router.shadow = .ready table) (hand : s.router.inHand = none) :
    exec .filterSwap s = .next (s.swapTable table).settle := by
  simp only [exec, execFilterSwap, ready, hand]

/-- Settles O38: the swap of the model, with its baselines read position by position (`carryBaseline_eq_some_iff`). -/
theorem filterSwapTakesShadow : Obligations.FilterSwapTakesShadow := by
  intro s table ready hand
  refine ⟨(s.swapTable table).router.baselines, fun i b => ?_, .of_settle (execFilterSwap_swaps ready hand)⟩
  have carried : (s.swapTable table).router.baselines[i] = carryBaseline table[i] s.router.active[i] s.router.baselines[i] := by
    simp [State.swapTable, State.raise, State.setNotices, State.dropItem]
  rw [carried]
  exact carryBaseline_eq_some_iff

end Sys2Proof.Machine
end

section
namespace Sys2Proof.Machine

/-! ### The completion of a Filter Table read (R130, R131, R134, R135) -/

section
variable {s : State} {t : Transfer} {j next : Fin 8} {entries : FilterTable} {block : Vector Byte 256}

theorem execFilterBlockRead_fails (carries : s.carries t (.filterBlockRead j)) (running : s.link.device = .running) :
    exec (.filterBlockReadComplete .error) s = .next (s.freePort.linkError .readError .planFetcher t.address).failLoad.settle := by
  obtain ⟨port, kind, owned⟩ := carries
  simp [exec, execFilterBlockReadComplete, State.endRead, port, kind, owned, running]

theorem execFilterBlockRead_takes (carries : s.carries t (.filterBlockRead j)) (running : s.link.device = .running) :
    exec (.filterBlockReadComplete (.data block)) s = .next (s.freePort.takeBlock j block).settle := by
  obtain ⟨port, kind, owned⟩ := carries
  simp [exec, execFilterBlockReadComplete, State.endRead, port, kind, owned, running]

theorem execFilterBlockRead_abandons (carries : s.carries t (.filterBlockRead j)) (other : s.link.device ≠ .running) :
    exec (.filterBlockReadComplete (.data block)) s = .next s.freePort.abandonLoad.settle := by
  obtain ⟨port, kind, owned⟩ := carries
  simp [exec, execFilterBlockReadComplete, State.endRead, port, kind, owned, other]

theorem placeBlock_getElem (entries : FilterTable) (j : Fin 8) (block : Vector Byte 256) (i : Fin 256) :
    (placeBlock entries j block)[i] = if i.val / 32 = j.val then filterEntryAt block (8 * (i.val % 32)) else entries[i] :=
  Vec.mapIdx_getElem ..

theorem State.takeBlock_fills (filling : s.router.shadow = .filling entries next false) : s.takeBlock j block = s.setShadow
    (if j.val = 7 then .ready (placeBlock entries j block) else .filling (placeBlock entries j block) (j + 1) false) := by
  have last : j.val = 7 ↔ j = 7 := (Fin.ext_iff (b := 7)).symm
  simp only [State.takeBlock, filling, last]
  split <;> rfl

theorem State.takeBlock_restarts (filling : s.router.shadow = .filling entries next true) :
    s.takeBlock j block = s.setShadow (.filling entries 0 false) := by
  simp only [State.takeBlock, filling]

theorem State.failLoad_eq {restart : Bool} (filling : s.router.shadow = .filling entries next restart) : s.failLoad = State.raise { s with
    router := { s.router with shadow := .none }
    fetcher := { s.fetcher with item := none, pendingSet := { s.fetcher.pendingSet with
      filter := s.fetcher.pendingSet.filter || restart } } } .filter := by
  simp only [State.failLoad, filling]
  rfl

end

/-! ### The conversion of an entry (R120) -/

theorem filterEntryAt_valid {block : Vector Byte 256} {k : Nat} (inside : k < 32) (valid : (byteAt block (8 * k)).getLsbD 0 = true) :
    ∃ e, filterEntryAt block (8 * k) = some e ∧
      e.dropErrored = (byteAt block (8 * k)).getLsbD 1 ∧ e.checkContinuity = (byteAt block (8 * k)).getLsbD 2 ∧
      e.target.val = (byteAt block (8 * k + 1)).toNat % 16 ∧ e.lanes.toNat = field block (8 * k + 2) 2 % 4096 ∧
      e.exponent = min 13 (byteAt block (8 * k + 6)).toNat ∧
      e.base = field block (8 * k + 4) 2 % 8192 / 2 ^ e.exponent * 2 ^ e.exponent := by
  refine ⟨_, if_pos valid, rfl, rfl, ?target, BitVec.toNat_ofNat _ _, ?exponent, rfl⟩
  case target =>
    rw [field_one_eq_byteAt block (8 * k + 1) (by omega)]
    rfl
  case exponent =>
    rw [clamp_eq 0 13 _ (by decide), field_one_eq_byteAt block (8 * k + 6) (by omega), Nat.zero_max]

/-- Settles O39: the completion by the shadow it finds, and the conversion of an entry field by field. -/
theorem filterBlockReadFillsShadow : Obligations.FilterBlockReadFillsShadow := by
  refine ⟨fun s t j entries next block carries running => ⟨fun filling => ?fills, fun filling => ?restarts, fun restart filling => ?fails⟩,
    fun s t j block carries other => .of_settle (execFilterBlockRead_abandons carries other),
    fun block k inside => ⟨fun invalid => if_neg (by rw [invalid]; exact Bool.false_ne_true), filterEntryAt_valid inside⟩⟩
  case fills =>
    refine ⟨placeBlock entries j block, placeBlock_getElem entries j block, .of_settle ((execFilterBlockRead_takes carries running).trans ?_)⟩
    rw [State.takeBlock_fills (s := s.freePort) filling]
    rfl
  case restarts =>
    refine .of_settle ((execFilterBlockRead_takes carries running).trans ?_)
    rw [State.takeBlock_restarts (s := s.freePort) filling]
    rfl
  case fails =>
    refine .of_settle ((execFilterBlockRead_fails carries running).trans ?_)
    rw [State.failLoad_eq (s := s.freePort.linkError ..) filling]
    rfl

end Sys2Proof.Machine
end

section
namespace Sys2Proof.Machine

/-! ### Bytes written, field by field (R181) -/

/-- The fields of a record in a row, each given by its size and value. -/
def fieldBytesOf (fields : List (Nat × Nat)) : List Byte :=
  fields.flatMap fun f => leBytes f.1 f.2

/-- From `offset` on `bytes` hold the fields in a row: each that fits its size reads as its value. -/
def Reads (bytes : List Byte) : Nat → List (Nat × Nat) → Prop
  | _, [] => True
  | offset, (size, value) :: fields =>
    (value < 256 ^ size → writtenField bytes offset size = value) ∧ Reads bytes (offset + size) fields

theorem leValue_leBytes (k x : Nat) (rest : List Byte) : leValue k (leBytes k x ++ rest) = x % 256 ^ k := by
  induction k generalizing x with
  | zero => exact (Nat.mod_one x).symm
  | succ k ih =>
    rw [leBytes, List.cons_append, leValue, ih, BitVec.toNat_ofNat, pow_succ' 256 k]
    exact Nat.mod_mul.symm

theorem writtenField_append (before bytes : List Byte) (size : Nat) :
    writtenField (before ++ bytes) before.length size = leValue size bytes := by
  rw [writtenField, List.drop_left]

theorem Reads.of_append {bytes before : List Byte} {fields : List (Nat × Nat)} (parts : bytes = before ++ fieldBytesOf fields) :
    Reads bytes before.length fields := by
  induction fields generalizing before with
  | nil => trivial
  | cons f fields ih =>
    obtain ⟨size, value⟩ := f
    have parts : bytes = before ++ (leBytes size value ++ fieldBytesOf fields) := parts
    refine ⟨fun fits => ?_, ?_⟩
    · rw [parts, writtenField_append, leValue_leBytes, Nat.mod_eq_of_lt fits]
    · have next : bytes = (before ++ leBytes size value) ++ fieldBytesOf fields := by rw [parts, List.append_assoc]
      simpa using ih next

theorem reads_fieldBytesOf (fields : List (Nat × Nat)) : Reads (fieldBytesOf fields) 0 fields :=
  Reads.of_append (before := []) rfl

/-- Reserved bytes are a field of value 0. -/
theorem zeros_eq_leBytes (k : Nat) : zeros k = leBytes k 0 := by
  induction k with
  | zero => rfl
  | succ k ih => exact congrArg (List.cons 0) ih

/-- A byte among reserved ones reads 0. -/
theorem writtenField_zeros (before after : List Byte) {count k : Nat} (above : before.length ≤ k) (below : k < before.length + count) :
    writtenField (before ++ (zeros count ++ after)) k 1 = 0 := by
  obtain ⟨i, rfl⟩ := Nat.exists_eq_add_of_le above
  obtain ⟨m, rfl⟩ : ∃ m, count = i + (m + 1) := ⟨count - i - 1, by omega⟩
  have split : before ++ (zeros (i + (m + 1)) ++ after) = (before ++ zeros i) ++ (zeros (m + 1) ++ after) := by
    simp [zeros, List.replicate_add]
  have place : before.length + i = (before ++ zeros i).length := by simp
  rw [split, place, writtenField_append]
  rfl

/-! ### What a value takes of its field -/

theorem LanePhase.code_lt (p : LanePhase) : p.code < 256 := by cases p <;> decide
theorem StreamPhase.code_lt (p : StreamPhase) : p.code < 256 := by cases p <;> decide
theorem Mast.code_lt (m : Mast) : Mast.code m < 2 := by cases m <;> decide
theorem DeviceState.code_lt (d : DeviceState) : d.code < 5 := by cases d <;> decide
theorem LoadFault.code_lt (f : LoadFault) : f.code < 4 := by cases f <;> decide
theorem PartMark.code_lt (m : PartMark) : m.code < 256 := by cases m <;> decide
theorem RefusalReason.code_lt (r : RefusalReason) : r.code < 256 := by cases r <;> decide
theorem CloseReason.code_lt (r : CloseReason) : r.code < 256 := by cases r <;> decide
theorem FaultKind.code_lt (k : FaultKind) : k.code < 256 := by cases k <;> decide

theorem FaultRequester.code_lt (r : FaultRequester) : r.code < 256 := by
  cases r with
  | planFetcher | statusWriter => decide
  | stream n =>
    have := n.isLt
    simp only [FaultRequester.code]
    omega

theorem time_fits (t : Time) : t.toNat < 256 ^ 8 :=
  t.isLt.trans (by decide)

/-! ### The records as fields (chapter 11) -/

theorem laneRecordBytes_reads (l : Lane) (mean : Option Nat) (updates : Counter) : Reads (laneRecordBytes l mean updates) 0
    [(4, updates.toNat), (1, l.phase.code), (1, Mast.code l.activeMast), (1, optionCode (l.recognizer.recognised.map Fin.val)),
      (1, l.tracker.qi), (1, l.tracker.lastRaw), (1, optionCode mean), (2, l.appliedTag.toNat), (4, l.counters.delivered.toNat),
      (4, l.counters.uncorrectable.toNat), (4, l.counters.correctedBytes.toNat), (4, l.counters.preLockDiscards.toNat),
      (4, l.counters.routerDrops.toNat), (4, l.counters.blankedSymbols.toNat), (4, l.counters.switches.toNat),
      (4, l.counters.seekCycles.toNat), (4, 0), (8, l.lastChange.toNat), (4, 0), (4, updates.toNat)] := by
  refine Reads.of_append (before := []) ?_
  simp [laneRecordBytes, LaneCounters.bytes, counterBytes, timeBytes, fieldBytesOf, zeros_eq_leBytes]

theorem stationRecordBytes_reads (s : State) (updates : Counter) : Reads (stationRecordBytes s updates) 0
    [(4, updates.toNat), (1, s.reportedDevice.code), (3, 0), (8, s.time.toNat), (4, s.mastA.count.toNat), (4, s.mastB.count.toNat),
      (4, s.router.drops.toNat), (4, s.router.unmatched.toNat), (4, s.router.breaks.toNat), (4, s.router.repeats.toNat),
      (4, s.fetcher.superseded.toNat), (4, s.link.linkErrors.toNat), (1, s.link.lastFault.kind.code),
      (1, s.link.lastFault.requester.code), (2, 0), (4, s.link.lastFault.address.toNat), (8, s.link.lastFault.time.toNat),
      (4, s.router.version.toNat), (1, s.station.rejected.toNat), (1, 0), (2, s.station.adjusted.toNat), (52, 0), (4, updates.toNat)] := by
  refine Reads.of_append (before := []) ?_
  simp [stationRecordBytes, LastFault.bytes, counterBytes, timeBytes, fieldBytesOf, zeros_eq_leBytes]

theorem stationRecordBytes_unlisted (s : State) (updates : Counter) {k : Nat} (above : 0x48 ≤ k) (below : k < 0x7C) :
    writtenField (stationRecordBytes s updates) k 1 = 0 := by
  unfold stationRecordBytes
  rw [List.append_assoc]
  have listed : ∀ listed : List Byte, listed.length = 0x48 → writtenField (listed ++ (zeros 52 ++ counterBytes updates)) k 1 = 0 :=
    fun listed size => writtenField_zeros listed _ (size ▸ above) (size ▸ below)
  exact listed _ (by simp [LastFault.bytes, counterBytes, timeBytes])

theorem WriteBackImage.bytes_reads (i : WriteBackImage) : Reads i.bytes 0
    [(1, i.mark.code), (1, i.reason.code), (2, i.appliedTag.toNat), (2, i.adjusted.toNat), (2, 0), (8, i.timeAtTake.toNat)] := by
  refine Reads.of_append (before := []) ?_
  simp [WriteBackImage.bytes, timeBytes, fieldBytesOf, zeros_eq_leBytes]

theorem StreamWriter.writeBackBytes_reads (w : StreamWriter) : Reads w.writeBackBytes 0
    [(1, w.phase.code), (7, 0), (8, w.currentRecord.toNat), (4, w.counters.buffersClosed.toNat), (4, w.counters.slotsWritten.toNat),
      (4, w.counters.droppedStarved.toNat), (4, w.counters.droppedFifo.toNat), (4, w.counters.droppedFault.toNat),
      (4, w.counters.droppedClosed.toNat), (4, w.counters.withheld.toNat), (4, 0)] := by
  refine Reads.of_append (before := []) ?_
  simp [StreamWriter.writeBackBytes, StreamCounters.bytes, counterBytes, fieldBytesOf, zeros_eq_leBytes]

/-- The stamp that the closing fields show: 0 when no slot was written (R146). -/
def stampCode : Option Time → Nat
  | none => 0
  | some t => t.toNat

theorem stampCode_lt (t : Option Time) : stampCode t < 256 ^ 6 := by
  cases t with
  | none => decide
  | some t => exact t.isLt

theorem stampBytes_eq (t : Option Time) : stampBytes t = leBytes 6 (stampCode t) := by
  cases t with
  | none => exact zeros_eq_leBytes 6
  | some t => rfl

theorem BufferClose.fieldBytes_reads (c : BufferClose) (sequence : Counter) : Reads (c.fieldBytes sequence) 0
    [(2, c.filled), (4, sequence.toNat), (6, stampCode c.stamp), (1, c.reason.code)] := by
  refine Reads.of_append (before := []) ?_
  simp [BufferClose.fieldBytes, stampBytes_eq, counterBytes, fieldBytesOf]

theorem Slot.bytes192_field (p : Slot) : writtenField p.bytes192 0 4 = p.tag.toNat :=
  (leValue_leBytes 4 p.tag.toNat p.bytes.toList).trans (Nat.mod_eq_of_lt p.tag.isLt)

theorem Slot.bytes192_packet (p : Slot) : p.bytes192.drop 4 = p.bytes.toList :=
  rfl

/-! ### The slot tag (R125) -/

theorem Slot.tag_toNat (p : Slot) : p.tag.toNat = p.lane.val + 16 * Mast.code p.mast + 32 * p.uncorrectable.toNat
    + 64 * p.continuityBreak.toNat + 128 * p.stamp.toNat := by
  have lane := p.lane.isLt
  have mast := Mast.code_lt p.mast
  have uncorrectable := Bool.toNat_lt p.uncorrectable
  have continuityBreak := Bool.toNat_lt p.continuityBreak
  have stamp := p.stamp.isLt
  rw [Slot.tag, BitVec.toNat_ofNat, Nat.mod_eq_of_lt (by omega)]

theorem getLsbD_eq_decide_div_mod {k : Nat} (x : BitVec k) (i : Nat) : x.getLsbD i = decide (x.toNat / 2 ^ i % 2 = 1) := by
  rw [← BitVec.testBit_toNat, Nat.testBit_eq_decide_div_mod_eq]

theorem eq_decide_toNat (b : Bool) : b = decide (b.toNat = 1) := by
  cases b <;> rfl

theorem Slot.tag_fields (p : Slot) : p.tag.toNat % 16 = p.lane.val ∧ p.tag.getLsbD 4 = decide (p.mast = .b) ∧
    p.tag.getLsbD 5 = p.uncorrectable ∧ p.tag.getLsbD 6 = p.continuityBreak ∧ p.tag.toNat / 128 = p.stamp.toNat := by
  have lane := p.lane.isLt
  have mast := Mast.code_lt p.mast
  have uncorrectable := Bool.toNat_lt p.uncorrectable
  have continuityBreak := Bool.toNat_lt p.continuityBreak
  have isB : decide (p.mast = .b) = decide (Mast.code p.mast = 1) := by cases p.mast <;> rfl
  rw [isB, eq_decide_toNat p.uncorrectable, eq_decide_toNat p.continuityBreak, getLsbD_eq_decide_div_mod,
    getLsbD_eq_decide_div_mod, getLsbD_eq_decide_div_mod, p.tag_toNat]
  refine ⟨by omega, ?_, ?_, ?_, by omega⟩ <;> (rw [decide_eq_decide]; omega)

end Sys2Proof.Machine
end

section
namespace Sys2Proof.Machine

/-! ### The registers as read (R168, section 11.3) -/

theorem controlWord_toNat (l : LinkPort) : (controlWord l).toNat = 2 ^ 16 * l.loadFault.code + (2 ^ 8 * l.device.code + l.run.toNat) := by
  have device := l.device.code_lt
  have fault := l.loadFault.code_lt
  have run := Bool.toNat_lt l.run
  rw [controlWord, BitVec.toNat_ofNat, Nat.mod_eq_of_lt (by omega)]
  omega

theorem controlWord_listed (l : LinkPort) : (controlWord l).getLsbD 0 = l.run ∧ (controlWord l).toNat / 256 % 8 = l.device.code ∧
    (controlWord l).toNat / 65536 % 4 = l.loadFault.code := by
  have device := l.device.code_lt
  have fault := l.loadFault.code_lt
  have run := Bool.toNat_lt l.run
  rw [getLsbD_eq_decide_div_mod, eq_decide_toNat l.run, controlWord_toNat, decide_eq_decide]
  omega

/-- RUN is bit 0, the device state bits 8 to 10, the load fault bits 16 and 17; no other bit is set. -/
theorem controlWord_unlisted (l : LinkPort) {i : Nat} (notRun : 1 ≤ i) (notDevice : ¬(8 ≤ i ∧ i ≤ 10)) (notFault : ¬(16 ≤ i ∧ i ≤ 17)) :
    (controlWord l).getLsbD i = false := by
  have zero : ∀ x k j : Nat, x < 2 ^ k → k ≤ j → x.testBit j = false := fun x k j small above =>
    Nat.testBit_lt_two_pow (small.trans_le (Nat.pow_le_pow_right (by decide) above))
  have device : l.device.code < 2 ^ 3 := l.device.code_lt.trans (by decide)
  have fault : l.loadFault.code < 2 ^ 2 := l.loadFault.code_lt
  have run : l.run.toNat < 2 ^ 1 := Bool.toNat_lt l.run
  rw [← BitVec.testBit_toNat, controlWord_toNat, Nat.testBit_two_pow_mul_add _ (by omega)]
  split
  · rw [Nat.testBit_two_pow_mul_add _ (by omega)]
    split
    · exact zero _ 1 i run notRun
    · exact zero _ 3 _ device (by omega)
  · exact zero _ 2 _ fault (by omega)

/-! ### Which writes are ignored (R168) -/

/-- A word masked to its low `k` bits is 0 exactly when those bits are. -/
theorem and_lowBits_eq_zero_iff {w k : Nat} (inside : k ≤ w) (value : BitVec w) :
    value &&& (BitVec.allOnes k).setWidth w = 0 ↔ ∀ i, i < k → value.getLsbD i = false := by
  constructor
  · intro masked i below
    have bit := congrArg (fun v => v.getLsbD i) masked
    simpa [below, below.trans_le inside] using bit
  · intro clear
    refine BitVec.eq_of_getLsbD_eq fun i _ => ?_
    by_cases below : i < k
    · simp [clear i below]
    · simp [below]

theorem attention_ignored_iff (value : BitVec 32) : writeIsIgnored 0x10#8 value = true ↔ ∀ i, i < 30 → value.getLsbD i = false :=
  (beq_iff_eq (a := value &&& 0x3FFFFFFF#32) (b := 0#32)).trans (and_lowBits_eq_zero_iff (k := 30) (by decide) value)

theorem noticeClear_ignored_iff (value : BitVec 32) : writeIsIgnored 0x14#8 value = true ↔ ∀ i, i < 7 → value.getLsbD i = false :=
  (beq_iff_eq (a := value &&& 0x7F#32) (b := 0#32)).trans (and_lowBits_eq_zero_iff (k := 7) (by decide) value)

theorem not_ignored_of_bit {value : BitVec 32} {k : Nat} {ignored : Bool} (iff : ignored = true ↔ ∀ i, i < k → value.getLsbD i = false)
    (bit : ∃ i, i < k ∧ value.getLsbD i = true) : ignored = false := by
  obtain ⟨i, below, set⟩ := bit
  refine Bool.eq_false_iff.2 fun ignores => ?_
  rw [iff.1 ignores i below] at set
  cases set

/-! ### The commands of an Attention write (R172) -/

theorem mem_attentionCommands (value : BitVec 32) (c : Instr) : c ∈ attentionCommands value ↔
    (∃ n : LaneId, c = .attentionLane n ∧ value.getLsbD n.val = true) ∨
    (∃ n : StreamId, c = .attentionStream n ∧ value.getLsbD (12 + n.val) = true) ∨
    (c = .attentionFilter ∧ value.getLsbD 28 = true) ∨ (c = .attentionStatusNow ∧ value.getLsbD 29 = true) := by
  have lane : c ∈ (allLanes.filter fun n => value.getLsbD n.val).map .attentionLane ↔
      ∃ n : LaneId, c = .attentionLane n ∧ value.getLsbD n.val = true := by
    simp only [List.mem_map, List.mem_filter, mem_allLanes, true_and, and_comm, eq_comm]
  have stream : c ∈ (allStreams.filter fun n => value.getLsbD (12 + n.val)).map .attentionStream ↔
      ∃ n : StreamId, c = .attentionStream n ∧ value.getLsbD (12 + n.val) = true := by
    simp only [List.mem_map, List.mem_filter, mem_allStreams, true_and, and_comm, eq_comm]
  have one : ∀ (bit : Bool) (only : Instr), c ∈ (if bit then [only] else []) ↔ c = only ∧ bit = true := by
    rintro (_ | _) only <;> simp
  rw [attentionCommands, List.mem_append, List.mem_append, List.mem_append, lane, stream, one, one, or_assoc, or_assoc,
    or_left_comm (a := c = .attentionFilter ∧ _)]

/-- Every Attention command once, in the order of a write. -/
def allAttention : List Instr :=
  allLanes.map .attentionLane ++ [.attentionFilter] ++ allStreams.map .attentionStream ++ [.attentionStatusNow]

theorem allAttention_nodup : allAttention.Nodup := by
  have lanes : (allLanes.map Instr.attentionLane).Nodup := allLanes_nodup.map fun _ _ => Instr.attentionLane.inj
  have streams : (allStreams.map Instr.attentionStream).Nodup := allStreams_nodup.map fun _ _ => Instr.attentionStream.inj
  simp only [allAttention, List.append_assoc, List.nodup_append, List.mem_append, List.mem_map, List.mem_singleton]
  refine ⟨lanes, ⟨List.nodup_singleton _, ⟨streams, List.nodup_singleton _, ?_⟩, ?_⟩, ?_⟩
  · rintro _ ⟨n, -, rfl⟩ _ rfl
    exact nofun
  · rintro _ rfl _ (⟨n, -, rfl⟩ | rfl) <;> exact nofun
  · rintro _ ⟨n, -, rfl⟩ _ (rfl | ⟨m, -, rfl⟩ | rfl) <;> exact nofun

theorem attentionCommands_sublist (value : BitVec 32) : (attentionCommands value).Sublist allAttention := by
  have one : ∀ (bit : Bool) (only : Instr), (if bit then [only] else []).Sublist [only] := by
    rintro (_ | _) only <;> simp
  exact (((List.filter_sublist.map _).append (one _ _)).append (List.filter_sublist.map _)).append (one _ _)

/-! ### Which commands a host write is (R168) -/

theorem registerWrite_attention (value : BitVec 32) : registerWrite 0x10#8 value =
    if writeIsIgnored 0x10#8 value then [.registerWriteIgnored 0x10#8 value] else attentionCommands value :=
  rfl

theorem registerWrite_notice (value : BitVec 32) : registerWrite 0x14#8 value =
    if writeIsIgnored 0x14#8 value then [.registerWriteIgnored 0x14#8 value] else [.noticeClear value] :=
  rfl

theorem registerWrite_control (value : BitVec 32) : registerWrite 0x04#8 value =
    if value.getLsbD 1 = true then [.softReset] else if value.getLsbD 0 = true then [.runSet] else [.runClear] := by
  change [controlCommand value] = _
  unfold controlCommand
  split
  · rfl
  · split <;> rfl

theorem registerWrite_elsewhere {offset : BitVec 8} (value : BitVec 32)
    (elsewhere : offset ∉ [0x00#8, 0x04#8, 0x08#8, 0x0C#8, 0x10#8, 0x14#8, 0x18#8]) : registerWrite offset value = [] := by
  simp only [List.mem_cons, List.not_mem_nil, or_false, not_or] at elsewhere
  simp [registerWrite, writeIsIgnored, writeOneBits, elsewhere]

end Sys2Proof.Machine
end

section
namespace Sys2Proof.Machine

/-! ### The register window (R125, R168, R181, chapter 11) -/

theorem readRegister_base_notices (s : State) : s.readRegister 0x08#8 = some (s.link.base.setWidth 32) ∧
    (∃ w, s.readRegister 0x14#8 = some w ∧ w.toNat = s.link.notice.toNat) ∧
    ∃ w, s.readRegister 0x18#8 = some w ∧ w.toNat = s.link.enable.toNat :=
  ⟨congrArg some (BitVec.setWidth_eq_extractLsb' (by decide)).symm, ⟨_, rfl, BitVec.toNat_setWidth_of_le (by decide)⟩,
    ⟨_, rfl, BitVec.toNat_setWidth_of_le (by decide)⟩⟩

theorem State.reportedDevice_code (s : State) : s.reportedDevice.code = if s.status.finalGroup = true then 0 else s.link.device.code := by
  unfold State.reportedDevice
  split <;> rfl

theorem Mast.code_eq (m : Mast) : Mast.code m = if m = .a then 0 else 1 := by
  cases m <;> rfl

theorem optionCode_lt {x : Option Nat} (small : ∀ m, x = some m → m < 256) : optionCode x < 256 := by
  cases x with
  | none => decide
  | some m => exact small m rfl

theorem recognisedCode_eq (x : Option EntryId) : optionCode (x.map Fin.val) = (match x with | none => 255 | some e => e.val) := by
  cases x <;> rfl

theorem recognisedCode_lt (x : Option EntryId) : optionCode (x.map Fin.val) < 256 :=
  optionCode_lt fun m held => by
    obtain ⟨e, -, rfl⟩ := Option.map_eq_some_iff.1 held
    exact e.isLt.trans (by decide)

/-- Settles O60: the registers by their words, a write by the commands it is, and each record by the row of its fields (`Reads`). -/
theorem registerWindow : Obligations.RegisterWindow := by
  refine ⟨fun s => ?registers, fun s => ⟨rfl, controlWord s.link, rfl, fun i notRun _ => controlWord_unlisted s.link notRun⟩,
    fun s offset value => rfl, fun value => ?writes, fun offset value => registerWrite_elsewhere value, fun p => ?slot, ?laneRecord,
    ?stationRecord, fun i => ?laneWriteBack, fun w => ?streamWriteBack, fun c sequence => ?closing⟩
  case registers =>
    obtain ⟨base, notice, enable⟩ := readRegister_base_notices s
    obtain ⟨run, device, fault⟩ := controlWord_listed s.link
    have reset : (controlWord s.link).getLsbD 1 = false := controlWord_unlisted s.link (le_refl 1) (by decide) (by decide)
    exact ⟨fun offset value _ => rfl, rfl, rfl, base, ⟨_, rfl, run, reset, device, fault⟩, notice, enable⟩
  case writes =>
    refine ⟨rfl, registerWrite_control value, rfl, rfl, fun clear => ?_, fun bit => ?_, fun clear => ?_, fun bit => ?_, rfl⟩
    · rw [registerWrite_attention, (attention_ignored_iff value).2 clear, if_pos rfl]
    · rw [registerWrite_attention, not_ignored_of_bit (attention_ignored_iff value) bit, if_neg Bool.false_ne_true]
      exact ⟨allAttention_nodup.sublist (attentionCommands_sublist value), mem_attentionCommands value⟩
    · rw [registerWrite_notice, (noticeClear_ignored_iff value).2 clear, if_pos rfl]
    · rw [registerWrite_notice, not_ignored_of_bit (noticeClear_ignored_iff value) bit, if_neg Bool.false_ne_true]
  case slot =>
    obtain ⟨lane, mast, uncorrectable, continuityBreak, stamp⟩ := p.tag_fields
    exact ⟨lane, mast, uncorrectable, continuityBreak, stamp, p.bytes192_length, p.bytes192_field, p.bytes192_packet⟩
  case laneRecord =>
    intro l mean updates b layout
    rw [layout]
    obtain ⟨first, phase, mast, entry, qi, raw, survey, tag, delivered, uncorrectable, corrected, discards, drops, blanked, switches, cycles,
      reserved, change, reserved', last, -⟩ := laneRecordBytes_reads l mean updates
    refine ⟨laneRecordBytes_length l mean updates, first updates.isLt, last updates.isLt, phase l.phase.code_lt,
      (mast ((Mast.code_lt _).trans (by decide))).trans (Mast.code_eq _), (entry (recognisedCode_lt _)).trans (recognisedCode_eq _),
      fun small => qi (small.trans_lt (by decide)), fun small => raw (small.trans_lt (by decide)), ?_, ?_, tag l.appliedTag.isLt,
      delivered l.counters.delivered.isLt, uncorrectable l.counters.uncorrectable.isLt, corrected l.counters.correctedBytes.isLt,
      discards l.counters.preLockDiscards.isLt, drops l.counters.routerDrops.isLt, blanked l.counters.blankedSymbols.isLt,
      switches l.counters.switches.isLt, cycles l.counters.seekCycles.isLt, reserved (by decide), change (time_fits l.lastChange),
      reserved' (by decide)⟩
    · rintro rfl
      exact survey (by decide)
    · rintro m rfl small
      exact survey (Nat.lt_of_le_of_lt small (by decide))
  case stationRecord =>
    intro s updates b layout
    rw [layout]
    obtain ⟨first, device, reserved, time, mastA, mastB, drops, unmatched, breaks, repeats, superseded, errors, kind, requester, reserved',
      address, faultTime, version, rejected, reserved'', adjusted, -, last, -⟩ := stationRecordBytes_reads s updates
    exact ⟨stationRecordBytes_length s updates, first updates.isLt, last updates.isLt,
      (device (s.reportedDevice.code_lt.trans (by decide))).trans s.reportedDevice_code, reserved (by decide), time (time_fits s.time),
      mastA s.mastA.count.isLt, mastB s.mastB.count.isLt, drops s.router.drops.isLt, unmatched s.router.unmatched.isLt,
      breaks s.router.breaks.isLt, repeats s.router.repeats.isLt, superseded s.fetcher.superseded.isLt, errors s.link.linkErrors.isLt,
      kind s.link.lastFault.kind.code_lt, requester s.link.lastFault.requester.code_lt, reserved' (by decide),
      address s.link.lastFault.address.isLt, faultTime (time_fits s.link.lastFault.time), version s.router.version.isLt,
      rejected s.station.rejected.isLt, reserved'' (by decide), adjusted s.station.adjusted.isLt,
      fun k => stationRecordBytes_unlisted s updates⟩
  case laneWriteBack =>
    obtain ⟨mark, reason, tag, adjusted, reserved, time, -⟩ := i.bytes_reads
    exact ⟨i.bytes_length, mark i.mark.code_lt, reason i.reason.code_lt, tag i.appliedTag.isLt, adjusted i.adjusted.isLt,
      reserved (by decide), time (time_fits i.timeAtTake)⟩
  case streamWriteBack =>
    obtain ⟨phase, reserved, record, closed, written, starved, fifo, fault, atRest, withheld, reserved', -⟩ := w.writeBackBytes_reads
    exact ⟨w.writeBackBytes_length, phase w.phase.code_lt, reserved (by decide), record w.currentRecord.isLt,
      closed w.counters.buffersClosed.isLt, written w.counters.slotsWritten.isLt, starved w.counters.droppedStarved.isLt,
      fifo w.counters.droppedFifo.isLt, fault w.counters.droppedFault.isLt, atRest w.counters.droppedClosed.isLt,
      withheld w.counters.withheld.isLt, reserved' (by decide)⟩
  case closing =>
    obtain ⟨filled, number, stamp, reason, -⟩ := c.fieldBytes_reads sequence
    exact ⟨c.fieldBytes_length sequence, fun small => filled (small.trans_lt (by decide)), number sequence.isLt,
      stamp (stampCode_lt c.stamp), reason c.reason.code_lt⟩

end Sys2Proof.Machine
end

section
namespace Sys2Proof.Machine

/-! PROOFS. What a Stream Writer reads from host memory (spec/08, spec/11): the Stream Record (R136) and the Buffer Record (R140), field by
field. -/

/-! ### Fields and addresses -/

theorem leValue_lt (k : Nat) (bytes : List Byte) : leValue k bytes < 256 ^ k := by
  induction k generalizing bytes with
  | zero => exact Nat.one_pos
  | succ k ih =>
    cases bytes with
    | nil => exact Nat.pow_pos (by decide)
    | cons b bs =>
      have low := b.isLt
      have high := ih bs
      rw [leValue, Nat.pow_succ]
      omega

/-- A one-byte field holds a code when its byte does. -/
theorem field_one_eq_iff {k : Nat} (r : Vector Byte k) {offset code : Nat} (inside : offset < k) (small : code < 256) :
    field r offset 1 = code ↔ byteAt r offset = BitVec.ofNat 8 code := by
  rw [field_one_eq_byteAt r offset inside, ← BitVec.toNat_inj, BitVec.toNat_ofNat, Nat.mod_eq_of_lt small]

/-- An eight-byte address is read with its low bits taken as 0. -/
theorem alignedAddr_field {k : Nat} (r : Vector Byte k) (low offset : Nat) :
    (alignedAddr low (field r offset 8)).toNat = field r offset 8 / 2 ^ low * 2 ^ low := by
  have fits : field r offset 8 / 2 ^ low * 2 ^ low < 2 ^ 64 := (Nat.div_mul_le_self _ _).trans_lt (leValue_lt 8 _)
  rw [alignedAddr, BitVec.toNat_ofNat, Nat.mod_eq_of_lt fits]

theorem clamp_zero (hi x : Nat) : clamp 0 hi x = min hi x := by
  rw [clamp_eq 0 hi x hi.zero_le, Nat.zero_max]

/-! ### The two records (R136, R140) -/

theorem streamFetch_fields (record : Vector Byte 64) :
    (streamFetch record).head.toNat = field record 0x08 8 / 16 * 16 ∧ ((streamFetch record).isOpen = true ↔ byteAt record 0x00 = 1#8) ∧
      (streamFetch record).priority.val = min 7 (byteAt record 0x01).toNat ∧
      ((streamFetch record).faultPolicy = .skip ↔ byteAt record 0x02 = 1#8) ∧
      (streamFetch record).flushInterval = (byteAt record 0x03).toNat ∧
      (streamFetch record).notifyOnClose = (byteAt record 0x04).getLsbD 0 := by
  have byte (offset : Nat) (inside : offset < 64) := field_one_eq_byteAt record offset inside
  refine ⟨alignedAddr_field record 4 8, ?isOpen, ?priority, ?policy, byte 3 (by decide), rfl⟩
  case isOpen => exact beq_iff_eq.trans (field_one_eq_iff record (by decide) (by decide))
  case priority =>
    have inRange : min 7 (byteAt record 1).toNat < 8 := by omega
    rw [← byte 1 (by decide), ← clamp_zero] at inRange ⊢
    exact Nat.mod_eq_of_lt inRange
  case policy =>
    rw [← field_one_eq_iff record (by decide) (by decide)]
    simp only [streamFetch, ite_eq_left_iff, reduceCtorEq, imp_false, not_not]

theorem bufferRecord_fields (bytes : Vector Byte 32) :
    ((bufferRecord bytes).isEmpty = true ↔ byteAt bytes 0x1F = 0#8) ∧ (bufferRecord bytes).dataArea.toNat = field bytes 0x00 8 / 64 * 64 ∧
      (bufferRecord bytes).nextRecord.toNat = field bytes 0x08 8 / 16 * 16 ∧ (bufferRecord bytes).capacity = min 4096 (field bytes 0x10 2) :=
  ⟨beq_iff_eq.trans (field_one_eq_iff bytes (by decide) (by decide)), alignedAddr_field bytes 6 0, alignedAddr_field bytes 4 8,
    clamp_zero 4096 _⟩

end Sys2Proof.Machine
end

section
namespace Sys2Proof.Machine

/-! PROOFS. A Stream Writer by itself (spec/08), case by case: offers (R143), fetches (R139, R148 to R150), Buffer Records read (R141, R147, R148,
R150), slot writes (R144, R145, R151), the moves after a close (R146 to R148, R150, R153). -/

section
variable {w : StreamWriter} {b : HeldBuffer} {c : BufferClose} {f : StreamFetch} {r : BufferRecord} {a : Addr} {now : Time}

namespace StreamWriter

/-! ### Entries and closes, in the terms of the statements -/

theorem beginClose_starved (starved : w.phase = .starved) (c : BufferClose) :
    w.beginClose c = { w with flushTimer := none, flushWaits := false, job := .closingFields c } := by
  rw [beginClose, if_pos (beq_iff_eq.2 starved)]

theorem beginClose_busy (busy : w.phase ≠ .starved) (c : BufferClose) :
    w.beginClose c = { w with flushTimer := none, flushWaits := false, position := .closingBuffer, job := .closingFields c } := by
  rw [beginClose, if_neg (by rwa [beq_iff_eq])]

theorem phase_ne_starved (busy : w.phase = .opened ∨ w.phase = .closing) : w.phase ≠ .starved := by
  rcases busy with phase | phase <;> rw [phase] <;> exact nofun

theorem closeCurrent_eq (current : w.current = some b) (busy : w.phase = .opened ∨ w.phase = .closing) (reason : CloseReason) :
    w.closeCurrent reason = w.afterCloseBegun b b.filled b.stamp reason := by
  rw [closeCurrent, current]
  exact beginClose_busy (phase_ne_starved busy) _

/-- With no flush expiry waiting, the begun close need not drop one. -/
theorem afterCloseBegun_unflushed (quiet : w.flushWaits = false) (filled : Nat) (stamp : Option Time) (reason : CloseReason) :
    w.afterCloseBegun b filled stamp reason = { w with
      flushTimer := none
      position := .closingBuffer
      job := .closingFields { address := b.address, nextRecord := b.nextRecord, filled := filled, stamp := stamp, reason := reason } } := by
  rw [afterCloseBegun, ← quiet]

/-! ### Fetches (R139, R148 to R150) -/

theorem fetch_open (opens : f.isOpen = true) : w.fetch f = { w.requestOpen f with owed := true } := by
  rw [fetch, if_pos opens]

theorem fetch_opens_closed (opens : f.isOpen = true) (closed : w.phase = .closed) (chain : f.head ≠ 0) :
    w.fetch f = { (w.withFetched f).afterReadWanted f.head with
      phase := .opened, counters := .zero, sequence := 0, position := .readingAt f.head } := by
  simp only [fetch_open opens, requestOpen, closed, openAt, if_neg chain]
  rfl

theorem fetch_opens_empty (opens : f.isOpen = true) (closed : w.phase = .closed) (empty : f.head = 0) :
    w.fetch f = { w.withFetched f with
      phase := .starved, counters := .zero, sequence := 0, position := .waitingAtEnd, job := .none, currentRecord := 0 } := by
  simp only [fetch_open opens, requestOpen, closed, openAt, if_pos empty]
  rfl

theorem fetch_opens_opened (opens : f.isOpen = true) (opened : w.phase = .opened) : w.fetch f = w.withFetched f := by
  simp only [fetch_open opens, requestOpen, opened]
  rfl

theorem fetch_opens_ending (opens : f.isOpen = true) (ending : w.phase = .closing ∨ w.phase = .halted) :
    w.fetch f = { w with owed := true } := by
  rcases ending with phase | phase <;> simp only [fetch_open opens, requestOpen, phase]

theorem fetch_opens_checking (opens : f.isOpen = true) (starved : w.phase = .starved) (checks : w.job ≠ .none) :
    w.fetch f = { w.withFetched f with recheck := some f.head } := by
  simp only [fetch_open opens, requestOpen, starved, bne_iff_ne, if_pos checks]
  rfl

theorem fetch_opens_waiting (opens : f.isOpen = true) (starved : w.phase = .starved) (free : w.job = .none) :
    w.fetch f = { (w.setFields f).startCheck f.head with owed := true } := by
  simp only [fetch_open opens, requestOpen, starved, free, bne_self_eq_false, Bool.false_eq_true, if_false]

theorem fetch_opens_waitingOn (opens : f.isOpen = true) (starved : w.phase = .starved) (free : w.job = .none)
    (waits : w.position = .waitingOn a) : w.fetch f = (w.withFetched f).afterReadWanted a := by
  have position : (w.setFields f).position = .waitingOn a := waits
  simp only [fetch_opens_waiting opens starved free, startCheck, position]
  rfl

theorem fetch_opens_waitingAtEnd (opens : f.isOpen = true) (starved : w.phase = .starved) (free : w.job = .none)
    (waits : w.position = .waitingAtEnd) :
    w.fetch f = if f.head = 0 then w.withFetched f else (w.withFetched f).afterReadWanted f.head := by
  have position : (w.setFields f).position = .waitingAtEnd := waits
  simp only [fetch_opens_waiting opens starved free, startCheck, position]
  split <;> rfl

/-- However it is taken in OPEN or STARVED, a CLOSE leaves the stream in CLOSING or CLOSED with a write-back owed. -/
theorem requestClose_ends (opens : w.phase = .opened ∨ w.phase = .starved) (head : Addr) :
    ((w.requestClose head).phase = .closing ∨ (w.requestClose head).phase = .closed) ∧ (w.requestClose head).owed = true := by
  rcases opens with phase | phase <;> simp only [requestClose, phase]
  · obtain ⟨kept, owed⟩ := (w.enter .closing).drain_keeps
    exact ⟨.inl kept, owed⟩
  · exact w.closeStarved_ends head

/-- A fetch CLOSE takes the stream as the rows of R150 say, and never starves it. -/
theorem fetch_takesClose (closes : f.isOpen = false) : TakesClose w f.head (w.fetch f) ∧ (w.fetch f).phase ≠ .starved := by
  have fetched : w.fetch f = { w.requestClose f.head with owed := true } := by
    rw [fetch, if_neg (by rw [closes]; exact Bool.false_ne_true)]
  have ends (opens : w.phase = .opened ∨ w.phase = .starved) :
      w.fetch f = w.requestClose f.head ∧ (w.requestClose f.head).phase ≠ .starved := by
    obtain ⟨phase, owed⟩ := requestClose_ends opens f.head
    refine ⟨by rw [fetched, ← owed], ?_⟩
    rcases phase with phase | phase <;> rw [phase] <;> exact nofun
  cases phase : w.phase
  case opened =>
    obtain ⟨same, walks⟩ := ends (.inl phase)
    exact same ▸ ⟨requestClose_opened phase f.head, walks⟩
  case starved =>
    obtain ⟨same, walks⟩ := ends (.inr phase)
    exact same ▸ ⟨requestClose_starved phase f.head, walks⟩
  case closed | closing =>
    simp [fetched, requestClose, phase, TakesClose]
  case halted =>
    have closed : w.fetch f = w.afterClosedEntry := by
      simp only [fetched, requestClose, phase]
      rfl
    rw [closed]
    exact ⟨by simp [TakesClose, phase], nofun⟩

/-! ### A Buffer Record is read (R141, R147, R148, R150) -/

theorem takeRecord_drained (closing : w.phase = .closing) (drained : w.fifo = []) : w.takeRecord a r = w.afterClosedEntry := by
  rw [takeRecord, if_pos (by simp [closing, drained])]
  rfl

/-- The record is looked at, but for a CLOSING stream with nothing left to write. -/
def LooksAtRecord (w : StreamWriter) : Prop :=
  w.phase = .closing → w.fifo ≠ []

theorem looksAtRecord_of_ne (phase : w.phase ≠ .closing) : w.LooksAtRecord :=
  fun closing => absurd closing phase

theorem LooksAtRecord.not_drained (looks : w.LooksAtRecord) : ¬(w.phase == .closing && w.fifo.isEmpty) = true := by
  simpa [LooksAtRecord] using looks

theorem takeRecord_fills (looks : w.LooksAtRecord) (empty : r.isEmpty = true) (room : 1 ≤ r.capacity) :
    w.takeRecord a r = { w with job := .filling (r.hold a) } := by
  rw [takeRecord, if_neg looks.not_drained, if_neg (by simp [empty]), if_neg (Nat.one_le_iff_ne_zero.1 room)]

theorem takeRecord_bad (looks : w.LooksAtRecord) (empty : r.isEmpty = true) (none : r.capacity = 0) :
    w.takeRecord a r = w.beginClose (badRecordClose a r.nextRecord) := by
  rw [takeRecord, if_neg looks.not_drained, if_neg (by simp [empty]), if_pos none]

theorem takeRecord_passes (looks : w.LooksAtRecord) (mark : r.isEmpty = false) : w.takeRecord a r = w.recordNotEmpty a := by
  rw [takeRecord, if_neg looks.not_drained, if_pos (by simp [mark])]

theorem recordNotEmpty_opened (opened : w.phase = .opened) :
    w.recordNotEmpty a = { w with phase := .starved, position := .waitingOn a, job := .none, owed := true } := by
  simp only [recordNotEmpty, opened]
  rfl

theorem recordNotEmpty_closing (closing : w.phase = .closing) : w.recordNotEmpty a = w.afterStarvedDrain := by
  simp only [recordNotEmpty, closing]
  rfl

theorem recordNotEmpty_starved (starved : w.phase = .starved) (settled : w.recheck = none) :
    w.recordNotEmpty a = { w with position := .waitingOn a, job := .none } := by
  simp only [recordNotEmpty, starved, endCheck, settled]

theorem recordNotEmpty_again {head : Addr} (starved : w.phase = .starved) (fetched : w.recheck = some head) :
    w.recordNotEmpty a = { w.afterReadWanted a with position := .waitingOn a, recheck := none } := by
  simp only [recordNotEmpty, starved, endCheck, fetched, startCheck, readRecord, afterReadWanted]

/-! ### The FILLING mark is written (R141, R148, R150) -/

/-- The stream with the record it took as its current buffer. -/
def afterHold (w : StreamWriter) (b : HeldBuffer) : StreamWriter :=
  { w with current := some b, position := .holding, job := .none, recheck := none }

theorem holdBuffer_opened (opened : w.phase = .opened) : w.holdBuffer b = w.afterHold b := by
  simp only [holdBuffer, opened, afterHold]

theorem holdBuffer_starved (starved : w.phase = .starved) :
    w.holdBuffer b = { w.afterHold b with phase := .opened, owed := true } := by
  simp only [holdBuffer, starved, afterHold, enter]

theorem holdBuffer_closing (closing : w.phase = .closing) : w.holdBuffer b = (w.afterHold b).drain := by
  simp only [holdBuffer, closing, afterHold]

/-! ### Slot writes (R144, R145, R151) -/

/-- The stream once a slot of buffer b has been written, before any close. -/
def afterSlot (w : StreamWriter) (b : HeldBuffer) (now : Time) : StreamWriter :=
  { w with
    inFlight := none
    counters := { w.counters with slotsWritten := satInc w.counters.slotsWritten }
    current := some { b with filled := b.filled + 1, stamp := if b.filled = 0 then some now else b.stamp }
    flushTimer := if b.filled = 0 ∧ w.flushInterval ≠ 0 then some (now + BitVec.ofNat 48 (w.flushInterval * 1000)) else w.flushTimer }

theorem slotWritten_eq (w : StreamWriter) (b : HeldBuffer) (now : Time) : w.slotWritten b now =
    if b.capacity ≤ b.filled + 1 then (w.afterSlot b now).closeCurrent .capacity
    else if w.flushWaits then (w.afterSlot b now).closeCurrent .flush
    else (w.afterSlot b now).drain := by
  have timer : w.flushAfter b now =
      if b.filled = 0 ∧ w.flushInterval ≠ 0 then some (now + BitVec.ofNat 48 (w.flushInterval * 1000)) else w.flushTimer := by
    simp only [flushAfter, Bool.and_eq_true, decide_eq_true_eq, bne_iff_ne]
    rfl
  rw [slotWritten, timer]
  rfl

theorem closeCurrent_afterSlot (busy : w.phase = .opened ∨ w.phase = .closing) (reason : CloseReason) :
    (w.afterSlot b now).closeCurrent reason =
      (w.afterSlot b now).afterCloseBegun b (b.filled + 1) (if b.filled = 0 then some now else b.stamp) reason :=
  closeCurrent_eq (w := w.afterSlot b now) rfl busy reason

theorem slotWritten_fills (busy : w.phase = .opened ∨ w.phase = .closing) (full : b.filled + 1 = b.capacity) : w.slotWritten b now =
    (w.afterSlot b now).afterCloseBegun b b.capacity (if b.filled = 0 then some now else b.stamp) .capacity := by
  rw [slotWritten_eq, if_pos full.ge, closeCurrent_afterSlot busy, full]

theorem slotWritten_flushes (busy : w.phase = .opened ∨ w.phase = .closing) (room : b.filled + 1 < b.capacity)
    (waits : w.flushWaits = true) : w.slotWritten b now =
      (w.afterSlot b now).afterCloseBegun b (b.filled + 1) (if b.filled = 0 then some now else b.stamp) .flush := by
  rw [slotWritten_eq, if_neg room.not_ge, if_pos waits, closeCurrent_afterSlot busy]

theorem slotWritten_goesOn (room : b.filled + 1 < b.capacity) (quiet : w.flushWaits = false) :
    w.slotWritten b now = (w.afterSlot b now).drain := by
  rw [slotWritten_eq, if_neg room.not_ge, if_neg (by rw [quiet]; exact Bool.false_ne_true)]

theorem drain_opened (opened : w.phase = .opened) : w.drain = w := by
  simp [drain, opened]

/-- The last slot of a drain closes the buffer with CLOSE (R150). -/
theorem drain_afterSlot (closing : w.phase = .closing) (last : w.fifo = []) (holding : w.position = .holding) (free : w.job = .none) :
    (w.afterSlot b now).drain =
      (w.afterSlot b now).afterCloseBegun b (b.filled + 1) (if b.filled = 0 then some now else b.stamp) .close := by
  rw [drain_ends (w := w.afterSlot b now) closing holding last rfl free rfl, if_neg b.filled.succ_ne_zero]
  rfl

/-- The stream once a slot write has failed, before the close. -/
def afterSlotFailed (w : StreamWriter) : StreamWriter :=
  { w with inFlight := none, counters := { w.counters with droppedFault := satInc w.counters.droppedFault } }

theorem slotFailed_eq (busy : w.phase = .opened ∨ w.phase = .closing) (current : w.current = some b) :
    w.slotFailed = w.afterSlotFailed.afterCloseBegun b b.filled b.stamp .fault :=
  closeCurrent_eq (w := w.afterSlotFailed) current busy .fault

/-! ### After a completed close (R146 to R148, R150, R153) -/

theorem afterClose_halts (fault : c.reason = .fault) (policy : w.faultPolicy = .halt) :
    w.afterClose c = w.afterCloseCounted.enterHalted := by
  rw [afterClose, if_pos (by simp [fault, policy])]
  rfl

theorem afterClose_moves (moves : c.reason ≠ .fault ∨ w.faultPolicy = .skip) : w.afterClose c = w.afterCloseCounted.moveOn c.nextRecord := by
  rw [afterClose, if_neg]
  · rfl
  · rcases moves with reason | policy
    · simp [reason]
    · simp [policy]

theorem moveOn_opened (opened : w.phase = .opened) (next : Addr) : w.moveOn next =
    if next = 0 then { w with phase := .starved, owed := true, position := .waitingAtEnd, job := .none, currentRecord := 0 }
    else { w.afterReadWanted next with position := .readingAt next } := by
  simp only [moveOn, opened]
  rfl

theorem moveOn_closing (closing : w.phase = .closing) (next : Addr) : w.moveOn next =
    if w.fifo = [] then w.afterClosedEntry
    else if next = 0 then w.afterStarvedDrain
    else { w.afterReadWanted next with position := .readingAt next } := by
  simp only [moveOn, closing, moveOnClosing, List.isEmpty_iff, enterClosed, enter, starveDrain, countRemoved, moveTo, readRecord,
    afterClosedEntry, afterStarvedDrain, afterReadWanted]

theorem moveOn_starved_reads {next : Addr} (starved : w.phase = .starved) (chain : next ≠ 0) :
    w.moveOn next = w.afterReadWanted next := by
  simp only [moveOn, starved, moveOnStarved, if_neg chain, readRecord, afterReadWanted]

theorem moveOn_starved_waits (starved : w.phase = .starved) (nothing : w.recheck = none ∨ w.recheck = some 0) : w.moveOn 0 =
    { w with position := .waitingAtEnd, currentRecord := 0, owed := true, job := .none, recheck := none } := by
  rcases nothing with settled | fetched
  · simp only [moveOn, starved, moveOnStarved, if_true, endCheck, settled]
  · simp only [moveOn, starved, moveOnStarved, if_true, endCheck, fetched, startCheck]

/-- At end-of-chain the check is made once more for a fetch with a head address that came meanwhile (R148). -/
theorem moveOn_starved_again {head : Addr} (starved : w.phase = .starved) (fetched : w.recheck = some head) (chain : head ≠ 0) :
    w.moveOn 0 = { w.afterReadWanted head with position := .waitingAtEnd, recheck := none } := by
  simp only [moveOn, starved, moveOnStarved, if_true, endCheck, fetched, startCheck, if_neg chain, readRecord, afterReadWanted]

end StreamWriter

/-! ### Offers (R143) -/

/-- Settles O35, by the states of R143. -/
theorem offeredSlotTaken : Obligations.OfferedSlotTaken := by
  refine fun w slot => ⟨fun opened room => ?_, fun opened full => ?_, fun starved => ?_, fun away => ?_⟩
  · simp only [StreamWriter.takeOffer, opened]
    exact if_pos room
  · simp only [StreamWriter.takeOffer, opened]
    exact if_neg full.not_lt
  · simp only [StreamWriter.takeOffer, starved]
  · rcases away with phase | phase | phase <;> simp only [StreamWriter.takeOffer, phase]

end

end Sys2Proof.Machine
end

section
namespace Sys2Proof.Machine

/-! PROOFS. The completions of a stream's transfers (spec/08): what each hands to its Stream Writer, then the statements of the family. -/

section
variable {s : State} {t : Transfer} {n : StreamId} {v : StreamWriter}

/-! ### Changes of one stream, and the notices they raise (R147, R153, R176) -/

theorem entersStarved_eq_false {before after : StreamWriter} (stays : after.phase = .starved → before.phase = .starved) :
    entersStarved before after = false := by
  simp only [entersStarved, Bool.and_eq_false_iff, bne_eq_false_iff_eq, beq_eq_false_iff_ne]
  exact (em (after.phase = .starved)).imp stays id

theorem entersHalted_eq_false {before after : StreamWriter} (stays : after.phase = .halted → before.phase = .halted) :
    entersHalted before after = false := by
  simp only [entersHalted, Bool.and_eq_false_iff, bne_eq_false_iff_eq, beq_eq_false_iff_ne]
  exact (em (after.phase = .halted)).imp stays id

theorem entersStarved_eq_true {before after : StreamWriter} (walked : before.phase ≠ .starved) (starved : after.phase = .starved) :
    entersStarved before after = true := by
  simp [entersStarved, walked, starved]

/-! ### What each completion hands over -/

theorem execStreamRecordRead_eq (carries : s.carries t (.streamRecordRead n)) :
    (∀ record, exec (.streamRecordReadComplete (.data record)) s = .next (if s.link.device = .running
        then s.freePort.dropItem.fetchStream n (streamFetch record) else s.freePort.dropItem).settle) ∧
      exec (.streamRecordReadComplete .error) s = .next (s.freePort.linkError .readError .planFetcher t.address).dropItem.settle := by
  obtain ⟨port, kind, owned⟩ := carries
  refine ⟨fun record => ?_, ?_⟩
  · by_cases running : s.link.device = .running <;>
      simp [exec, execStreamRecordReadComplete, State.endRead, port, kind, owned, running]
  · simp [exec, execStreamRecordReadComplete, State.endRead, port, kind, owned]

/-- A fetch that does not starve the stream raises nothing (R138, R139). -/
theorem Gives.fetch {record : Vector Byte 64} (carries : s.carries t (.streamRecordRead n)) (running : s.link.device = .running)
    (fetched : (s.stream n).fetch (streamFetch record) = v) (stays : v.phase = .starved → (s.stream n).phase = .starved) :
    Gives (.streamRecordReadComplete (.data record)) s (s.afterFetch n v) := by
  refine .of_settle (((execStreamRecordRead_eq carries).1 record).trans ?_)
  have fetched' : (s.freePort.dropItem.stream n).fetch (streamFetch record) = v := fetched
  have quiet : entersStarved (s.freePort.dropItem.stream n) v = false := entersStarved_eq_false stays
  rw [if_pos running, State.fetchStream, fetched', quiet]
  rfl

/-- A Buffer Record read at a, by its data; STREAM where the stream starves (R141, R147). -/
theorem Gives.record {a : Addr} {bytes : Vector Byte 32} (carries : s.carries t (.bufferRecordRead n)) (job : (s.stream n).job = .read a)
    (taken : (s.stream n).takeRecord a (bufferRecord bytes) = v) :
    Gives (.bufferRecordReadComplete (.data bytes)) s
      ((s.freePort.setStream n v).raiseIf (entersStarved (s.stream n) v) .stream) := by
  obtain ⟨port, kind, owned⟩ := carries
  refine .of_settle ?_
  rw [← taken]
  simp [exec, execBufferRecordReadComplete, State.endRead, port, kind, owned, job]

theorem Gives.record_stays {a : Addr} {bytes : Vector Byte 32} (carries : s.carries t (.bufferRecordRead n))
    (job : (s.stream n).job = .read a) (taken : (s.stream n).takeRecord a (bufferRecord bytes) = v)
    (stays : v.phase = .starved → (s.stream n).phase = .starved) :
    Gives (.bufferRecordReadComplete (.data bytes)) s (s.freePort.setStream n v) := by
  have given := Gives.record carries job taken
  rwa [entersStarved_eq_false stays] at given

theorem Gives.filling {b : HeldBuffer} (carries : s.carries t (.fillingWrite n)) (job : (s.stream n).job = .filling b)
    (held : (s.stream n).holdBuffer b = v) : Gives (.fillingWriteComplete .accepted) s ((s.freePort.accept t).setStream n v) := by
  obtain ⟨port, kind, owned⟩ := carries
  refine .of_settle ?_
  rw [← held]
  simp [exec, execFillingWriteComplete, State.endWrite, port, kind, owned, job]

theorem Gives.closingFields {c : BufferClose} (carries : s.carries t (.closingFieldsWrite n)) (job : (s.stream n).job = .closingFields c) :
    Gives (.closingFieldsWriteComplete .accepted) s ((s.freePort.accept t).setStream n { s.stream n with job := .mark c }) := by
  obtain ⟨port, kind, owned⟩ := carries
  refine .of_settle ?_
  simp [exec, execClosingFieldsWriteComplete, State.endWrite, State.modStream, port, kind, owned, job]

theorem Gives.slotAccepted {b : HeldBuffer} (carries : s.carries t (.slotWrite n)) (current : (s.stream n).current = some b)
    (written : (s.stream n).slotWritten b s.time = v) :
    Gives (.slotWriteComplete .accepted) s ((s.freePort.accept t).setStream n v) := by
  obtain ⟨port, kind, owned⟩ := carries
  refine .of_settle ?_
  rw [← written]
  simp [exec, execSlotWriteComplete, State.endWrite, port, kind, owned, current]

/-- The slot that fills the buffer closes it with CAPACITY, a flush expiry waiting or not (R145). -/
theorem Gives.slotFills {b : HeldBuffer} (carries : s.carries t (.slotWrite n))
    (busy : (s.stream n).phase = .opened ∨ (s.stream n).phase = .closing) (current : (s.stream n).current = some b)
    (full : b.filled + 1 = b.capacity) : Gives (.slotWriteComplete .accepted) s ((s.freePort.accept t).setStream n
      (((s.stream n).afterSlot b s.time).afterCloseBegun b b.capacity (if b.filled = 0 then some s.time else b.stamp) .capacity)) :=
  Gives.slotAccepted carries current (StreamWriter.slotWritten_fills busy full)

/-- A failed slot closes the buffer with FAULT (R151). -/
theorem Gives.slotFails {b : HeldBuffer} (carries : s.carries t (.slotWrite n))
    (busy : (s.stream n).phase = .opened ∨ (s.stream n).phase = .closing) (current : (s.stream n).current = some b) :
    Gives (.slotWriteComplete .error) s ((s.freePort.linkError .writeError (.stream n) t.address).setStream n
      ((s.stream n).afterSlotFailed.afterCloseBegun b b.filled b.stamp .fault)) := by
  obtain ⟨port, kind, owned⟩ := carries
  refine .of_settle ?_
  simp [exec, execSlotWriteComplete, State.endWrite, State.modStream, port, kind, owned, StreamWriter.slotFailed_eq busy current]

/-- A mark write accepted, with the notices of R146 and those of an entry to STARVED or HALTED. -/
theorem Gives.mark {c : BufferClose} (carries : s.carries t (.markWrite n)) (job : (s.stream n).job = .mark c)
    (closed : (s.stream n).afterClose c = v) :
    Gives (.markWriteComplete .accepted) s
      ((((s.freePort.accept t).setStream n v).raiseIf (s.stream n).notifyOnClose .buffer).raiseIf
        (c.reason == .fault || entersStarved (s.stream n) v || entersHalted (s.stream n) v) .stream) := by
  obtain ⟨port, kind, owned⟩ := carries
  refine .of_settle ?_
  rw [← closed]
  simp [exec, execMarkWriteComplete, State.endWrite, State.markWritten, port, kind, owned, job]

theorem Gives.emptyMark (carries : s.carries t (.emptyMarkWrite n)) :
    Gives (.emptyMarkWriteComplete .accepted) s ((s.freePort.accept t).setStream n (s.stream n).afterClosedEntry) := by
  obtain ⟨port, kind, owned⟩ := carries
  refine .of_settle ?_
  simp [exec, execEmptyMarkWriteComplete, State.endWrite, port, kind, owned]
  rfl

theorem Gives.writeBack (carries : s.carries t (.streamWriteBack n)) :
    Gives (.streamWriteBackComplete .accepted) s (s.freePort.accept t) ∧
      Gives (.streamWriteBackComplete .error) s (s.freePort.linkError .writeError (.stream n) t.address) := by
  obtain ⟨port, kind, owned⟩ := carries
  constructor <;> refine .of_settle ?_ <;> simp [exec, execStreamWriteBackComplete, State.endWrite, port, kind, owned]

theorem execFlushTimerExpiry_eq (due : (s.stream n).flushTimer = some s.time) : exec (.flushTimerExpiry n) s =
    if (s.stream n).inFlight.isSome then .next (s.setStream n { s.stream n with flushTimer := none, flushWaits := true })
    else .next (s.setStream n (StreamWriter.closeCurrent { s.stream n with flushTimer := none } .flush)).settle :=
  if_pos (expiresAt_iff.2 due)

theorem Gives.flush (due : (s.stream n).flushTimer = some s.time) (landed : (s.stream n).inFlight = none)
    (closed : StreamWriter.closeCurrent { s.stream n with flushTimer := none } .flush = v) :
    Gives (.flushTimerExpiry n) s (s.setStream n v) := by
  refine .of_settle ((execFlushTimerExpiry_eq due).trans ?_)
  rw [if_neg (by rw [landed]; exact Bool.false_ne_true), closed]

/-- A mark write after which the stream enters neither STARVED nor HALTED raises STREAM for a FAULT close alone. -/
theorem Gives.mark_stays {c : BufferClose} (carries : s.carries t (.markWrite n)) (job : (s.stream n).job = .mark c)
    (closed : (s.stream n).afterClose c = v) (starves : v.phase = .starved → (s.stream n).phase = .starved)
    (halts : v.phase = .halted → (s.stream n).phase = .halted) :
    Gives (.markWriteComplete .accepted) s
      ((((s.freePort.accept t).setStream n v).raiseIf (s.stream n).notifyOnClose .buffer).raiseIf (decide (c.reason = .fault)) .stream) := by
  have given := Gives.mark carries job closed
  rwa [entersStarved_eq_false starves, entersHalted_eq_false halts, Bool.or_false, Bool.or_false, beq_eq_decide] at given

/-- A mark write after which the stream enters STARVED raises STREAM, once for that and a FAULT close. -/
theorem Gives.mark_starves {c : BufferClose} (carries : s.carries t (.markWrite n)) (job : (s.stream n).job = .mark c)
    (closed : (s.stream n).afterClose c = v) (walked : (s.stream n).phase ≠ .starved) (starved : v.phase = .starved) :
    Gives (.markWriteComplete .accepted) s (State.raise
      ((((s.freePort.accept t).setStream n v).raiseIf (s.stream n).notifyOnClose .buffer).raiseIf (decide (c.reason = .fault)) .stream)
      .stream) := by
  have given := Gives.mark carries job closed
  rw [entersStarved_eq_true walked starved, Bool.or_true, Bool.true_or] at given
  rwa [← State.raiseIf_true, State.raiseIf_raiseIf, Bool.or_true]

/-! ### A link error on a Buffer Record transfer (R152, R153) -/

theorem exec_recordError {c : Instr} {kind : FaultKind} (carries : s.carries t t.kind) (completes : ends c t.kind = true)
    (error : errorOf c = some kind)
    (record : t.kind = .bufferRecordRead n ∨ t.kind = .fillingWrite n ∨ t.kind = .closingFieldsWrite n ∨ t.kind = .markWrite n ∨
      t.kind = .emptyMarkWrite n) :
    exec c s = .next ((s.freePort.linkError kind (.stream n) t.address).haltStream n).settle := by
  obtain ⟨port, -, owned⟩ := carries
  rcases record with own | own | own | own | own
  all_goals
    rw [own] at completes
    cases c <;> cases completes
    rename_i result
    cases result <;> cases error
    simp [exec, execBufferRecordReadComplete, execFillingWriteComplete, execClosingFieldsWriteComplete, execMarkWriteComplete,
      execEmptyMarkWriteComplete, State.endRead, State.endWrite, port, own, owned]

/-! ### The statements of the family -/

/-- Settles O47: every Buffer Record transfer hands its error to the same entry to HALTED. -/
theorem recordErrorHaltsStream : Obligations.RecordErrorHaltsStream :=
  fun _ _ _ _ _ carries completes error record => .of_settle (exec_recordError carries completes error record)

/-- Settles O46. -/
theorem emptyMarkClosesAndWriteBackLeaves : Obligations.EmptyMarkClosesAndWriteBackLeaves :=
  fun _ _ _ => ⟨Gives.emptyMark, Gives.writeBack⟩

/-- Settles O44: the expiry by whether a slot write is in flight. -/
theorem flushTimerExpiryClosesBuffer : Obligations.FlushTimerExpiryClosesBuffer := fun s n b due current busy =>
  ⟨fun landed => Gives.flush due landed
      (StreamWriter.closeCurrent_eq (w := { s.stream n with flushTimer := none }) (b := b) current busy .flush),
    fun flies => (execFlushTimerExpiry_eq due).trans (if_pos flies)⟩

/-- Settles O42: the record held by the stream's state; in CLOSING the drain goes on or ends with EMPTY put back. -/
theorem fillingAndFieldsWrites : Obligations.FillingAndFieldsWrites := by
  refine ⟨fun s t n c => Gives.closingFields, fun s t n b carries job => ⟨fun opened => ?_, fun starved => ?_, fun closing slots => ?_,
    fun closing drained landed unfilled => ?_⟩⟩
  · exact Gives.filling carries job (StreamWriter.holdBuffer_opened opened)
  · exact Gives.filling carries job (StreamWriter.holdBuffer_starved starved)
  · exact Gives.filling carries job ((StreamWriter.holdBuffer_closing closing).trans
      (StreamWriter.drain_waits (w := (s.stream n).afterHold b) (.inr (.inl slots))))
  · have ends := StreamWriter.drain_ends (w := (s.stream n).afterHold b) (b := b) closing rfl drained landed rfl rfl
    rw [if_pos unfilled] at ends
    exact Gives.filling carries job ((StreamWriter.holdBuffer_closing closing).trans ends)

/-- Settles O41: the record by its mark and capacity in each state, then the record field by field. -/
theorem bufferRecordReadActsOnMark : Obligations.BufferRecordReadActsOnMark := by
  refine ⟨fun s t n a bytes r carries opened job read => ?opened,
    fun s t n a bytes r w carries stream job read => ⟨fun starved => ?starved, fun closing => ?closing, ?fields⟩⟩
  case opened =>
    subst read
    have looks := StreamWriter.looksAtRecord_of_ne (w := s.stream n) (by rw [opened]; exact nofun)
    have walked : (s.stream n).phase ≠ .starved := by rw [opened]; exact nofun
    refine ⟨fun empty room => ?_, fun empty none => ?_, fun mark => ?_⟩
    · exact Gives.record_stays carries job (StreamWriter.takeRecord_fills looks empty room) id
    · exact Gives.record_stays carries job
        ((StreamWriter.takeRecord_bad looks empty none).trans (StreamWriter.beginClose_busy walked _)) id
    · have starves := Gives.record carries job
        ((StreamWriter.takeRecord_passes looks mark).trans (StreamWriter.recordNotEmpty_opened opened))
      rwa [entersStarved_eq_true walked rfl] at starves
  case starved =>
    subst read stream
    have looks := StreamWriter.looksAtRecord_of_ne (w := s.stream n) (by rw [starved]; exact nofun)
    have stays {v : StreamWriter} (_ : v.phase = .starved) := starved
    refine ⟨fun empty room => ?_, fun empty none => ?_, fun mark settled => ?_, fun mark fetched => ?_⟩
    · exact Gives.record_stays carries job (StreamWriter.takeRecord_fills looks empty room) stays
    · exact Gives.record_stays carries job
        ((StreamWriter.takeRecord_bad looks empty none).trans (StreamWriter.beginClose_starved starved _)) stays
    · exact Gives.record_stays carries job
        ((StreamWriter.takeRecord_passes looks mark).trans (StreamWriter.recordNotEmpty_starved starved settled)) stays
    · obtain ⟨head, again⟩ := Option.isSome_iff_exists.1 fetched
      exact Gives.record_stays carries job
        ((StreamWriter.takeRecord_passes looks mark).trans (StreamWriter.recordNotEmpty_again starved again)) stays
  case closing =>
    subst read stream
    have walked : (s.stream n).phase ≠ .starved := by rw [closing]; exact nofun
    refine ⟨fun drained => ?_, fun slots mark => ?_, fun slots empty room => ?_, fun slots empty none => ?_⟩
    · exact Gives.record_stays carries job (StreamWriter.takeRecord_drained closing drained) nofun
    · exact Gives.record_stays carries job
        ((StreamWriter.takeRecord_passes (fun _ => slots) mark).trans (StreamWriter.recordNotEmpty_closing closing)) nofun
    · exact Gives.record_stays carries job (StreamWriter.takeRecord_fills (fun _ => slots) empty room) id
    · exact Gives.record_stays carries job
        ((StreamWriter.takeRecord_bad (fun _ => slots) empty none).trans (StreamWriter.beginClose_busy walked _)) id
  case fields =>
    subst read
    exact bufferRecord_fields bytes

/-- Settles O43: a slot written by the room left, the waiting flush and the drain; a slot failed. -/
theorem slotWriteMovesBuffer : Obligations.SlotWriteMovesBuffer := by
  refine ⟨fun s t n b carries opened current quiet => ⟨fun room => ?_, fun full => ?_, ?_⟩,
    fun s t n b w written stamp carries stream current stamped slot => ?_⟩
  · exact Gives.slotAccepted carries current ((StreamWriter.slotWritten_goesOn room quiet).trans
      (StreamWriter.drain_opened (w := (s.stream n).afterSlot b s.time) opened))
  · have given := Gives.slotFills carries (.inl opened) current full
    rwa [StreamWriter.afterCloseBegun_unflushed (w := (s.stream n).afterSlot b s.time) quiet] at given
  · have given := Gives.slotFails carries (.inl opened) current
    rwa [StreamWriter.afterCloseBegun_unflushed (w := (s.stream n).afterSlotFailed) quiet] at given
  subst stamped stream slot
  refine ⟨fun busy waits room => ?_, fun closing => ⟨fun quiet room slots => ?_, fun quiet room drained holding free => ?_⟩,
    fun busy => ⟨Gives.slotFills carries busy current, Gives.slotFails carries busy current⟩⟩
  · exact Gives.slotAccepted carries current (StreamWriter.slotWritten_flushes busy room waits)
  · exact Gives.slotAccepted carries current ((StreamWriter.slotWritten_goesOn room quiet).trans
      (StreamWriter.drain_waits (w := (s.stream n).afterSlot b s.time) (.inr (.inl slots))))
  · exact Gives.slotAccepted carries current ((StreamWriter.slotWritten_goesOn room quiet).trans
      (StreamWriter.drain_afterSlot closing drained holding free))

/-- Settles O45: the close by reason and policy, then the move by the state and the next record. -/
theorem markWriteMovesOn : Obligations.MarkWriteMovesOn := by
  intro s t n c w after carries stream job told
  obtain rfl : after = fun v => (((s.freePort.accept t).setStream n v).raiseIf w.notifyOnClose .buffer).raiseIf
    (decide (c.reason = .fault)) .stream := funext told
  clear told
  subst stream
  refine ⟨fun fault policy => ?halts, fun goesOn => ?moves⟩
  case halts =>
    have given := Gives.mark carries job (StreamWriter.afterClose_halts fault policy)
    rwa [fault, beq_self_eq_true, Bool.true_or, Bool.true_or, ← decide_eq_true fault] at given
  case moves =>
    have moves := StreamWriter.afterClose_moves goesOn
    refine ⟨fun opened => ?_, fun closing => ?_, fun starved fault => ?_⟩
    · have moved := moves.trans (StreamWriter.moveOn_opened (w := (s.stream n).afterCloseCounted) opened c.nextRecord)
      refine ⟨fun chain => ?_, fun atEnd => ?_⟩
      · rw [if_neg chain] at moved
        exact Gives.mark_stays carries job moved id id
      · rw [if_pos atEnd] at moved
        exact Gives.mark_starves carries job moved (by rw [opened]; exact nofun) rfl
    · have moved := moves.trans (StreamWriter.moveOn_closing (w := (s.stream n).afterCloseCounted) closing c.nextRecord)
      refine ⟨fun drained => ?_, fun slots atEnd => ?_, fun slots chain => ?_⟩
      · rw [if_pos (by exact drained)] at moved
        exact Gives.mark_stays carries job moved nofun nofun
      · rw [if_neg (by exact slots), if_pos atEnd] at moved
        exact Gives.mark_stays carries job moved nofun nofun
      · rw [if_neg (by exact slots), if_neg chain] at moved
        exact Gives.mark_stays carries job moved id id
    · have stays : (s.stream n).afterCloseCounted.phase = .starved := starved
      refine ⟨fun chain => ?_, fun atEnd settled => ?_, fun head atEnd fetched chain => ?_⟩
      · exact Gives.mark_stays carries job (moves.trans (StreamWriter.moveOn_starved_reads stays chain)) id id
      · rw [atEnd] at moves
        exact Gives.mark_stays carries job (moves.trans (StreamWriter.moveOn_starved_waits stays settled)) id id
      · rw [atEnd] at moves
        exact Gives.mark_stays carries job (moves.trans (StreamWriter.moveOn_starved_again stays fetched chain)) id id

/-- Opening an empty chain starves the stream at once (R139). -/
theorem exec_opens_empty {record : Vector Byte 64} (carries : s.carries t (.streamRecordRead n)) (running : s.link.device = .running)
    (opens : (streamFetch record).isOpen = true) (closed : (s.stream n).phase = .closed) (empty : (streamFetch record).head = 0) :
    ∃ u, exec (.streamRecordReadComplete (.data record)) s = .next u ∧
      (u.stream n).phase = .starved ∧ (u.stream n).position = .waitingAtEnd ∧ (u.stream n).counters = .zero ∧
      (u.stream n).sequence = 0 ∧ (u.stream n).owed = true ∧ u.link.notice.getLsbD 3 = true := by
  refine ⟨_, (execStreamRecordRead_eq carries).1 record, ?_⟩
  have fetched := StreamWriter.fetch_opens_empty (w := s.freePort.dropItem.stream n) opens closed empty
  have starves : entersStarved (s.freePort.dropItem.stream n) ((s.freePort.dropItem.stream n).fetch (streamFetch record)) = true :=
    entersStarved_eq_true (by rw [State.dropItem_stream, State.freePort_stream, closed]; exact nofun) (by rw [fetched])
  rw [if_pos running, State.settle_stream, State.settle_link, State.fetchStream, starves, State.raiseIf_true, State.raise_stream,
    State.setStream_stream_self, fetched, State.raise_notice]
  exact ⟨rfl, rfl, rfl, rfl, rfl, by rw [BitVec.getLsbD_or]; exact Bool.or_true _⟩

/-- Settles O40: the fetch by the request and the stream's state, then the fetch field by field. -/
theorem streamRecordReadIsFetch : Obligations.StreamRecordReadIsFetch := by
  refine ⟨fun s t n record f carries running fetch opens => ?opens, fun s t n record carries other => ?discards,
    fun s t n record f w carries running fetch stream => ⟨fun opens => ?reopens, fun closes => ?closes, ?fields⟩⟩
  case opens =>
    subst fetch
    refine ⟨fun closed chain => ?_, fun closed empty => exec_opens_empty carries running opens closed empty, fun opened => ?_,
      .of_settle (execStreamRecordRead_eq carries).2⟩
    · exact Gives.fetch carries running (StreamWriter.fetch_opens_closed opens closed chain) nofun
    · exact Gives.fetch carries running (StreamWriter.fetch_opens_opened opens opened) id
  case discards =>
    exact .of_settle (((execStreamRecordRead_eq carries).1 record).trans (by rw [if_neg other]; rfl))
  case reopens =>
    subst fetch stream
    refine ⟨fun ending => ?_, fun starved checks => ?_, fun a starved free waits => ?_, fun starved free waits => ?_⟩
    · exact Gives.fetch carries running (StreamWriter.fetch_opens_ending opens ending) id
    · exact Gives.fetch carries running (StreamWriter.fetch_opens_checking opens starved checks) fun _ => starved
    · exact Gives.fetch carries running (StreamWriter.fetch_opens_waitingOn opens starved free waits) fun _ => starved
    · exact Gives.fetch carries running (StreamWriter.fetch_opens_waitingAtEnd opens starved free waits) fun _ => starved
  case closes =>
    subst fetch stream
    obtain ⟨takes, walks⟩ := StreamWriter.fetch_takesClose (w := s.stream n) closes
    exact ⟨_, takes, Gives.fetch carries running rfl fun starved => absurd starved walks⟩
  case fields =>
    subst fetch
    exact streamFetch_fields record

end

end Sys2Proof.Machine
end

section
namespace Sys2Proof.Machine

/-! PROOFS. Transfer arbitration (spec/09): at most one request outstanding per requester (R159, R160), the placing of requests (R159 to R162), the
choice among slot writes (R163), transfers that a soft reset abandoned, and the resets (R166, R178). -/

/-! ### What leaves the Transfer Arbiter alone -/

@[simp] theorem State.setFront_arbiter (s : State) (m : Mast) (f : MastFrontEnd) : (s.setFront m f).arbiter = s.arbiter := by
  cases m <;> rfl

@[simp] theorem State.impulse_arbiter (s : State) (m : Mast) : (s.impulse m).arbiter = s.arbiter := s.setFront_arbiter m _

@[simp] theorem State.takeStatusNow_arbiter (s : State) : s.takeStatusNow.arbiter = s.arbiter := by
  rcases s.takeStatusNow_cases with same | ⟨-, -, -, same⟩ <;> rw [same]
  rfl

/-! #### The Survey Unit's operations (R76 to R90) -/

@[simp] theorem State.fileRequest_arbiter (s : State) (n : LaneId) (cls : SurveyClass) : (s.fileRequest n cls).arbiter = s.arbiter :=
  State.surveySettle_arbiter _

@[simp] theorem State.endDwell_arbiter (s : State) (d : Dwell) (p : TunePlan) : (s.endDwell d p).arbiter = s.arbiter :=
  State.surveySettle_arbiter _

@[simp] theorem State.takeSurveyReport_arbiter (s : State) (d : Dwell) (p : TunePlan) (signal error : BitVec 16) :
    (s.takeSurveyReport d p signal error).arbiter = s.arbiter := by
  simp [State.takeSurveyReport, apply_ite State.arbiter]

/-! #### Entries, takes and reports of a lane (R53 to R67, R105 to R110) -/

@[simp] theorem State.enterSeek_arbiter (s : State) (n : LaneId) (p : TunePlan) : (s.enterSeek n p).arbiter = s.arbiter := by
  simp [State.enterSeek]

@[simp] theorem State.enterTrack_arbiter (s : State) (n : LaneId) (p : TunePlan) : (s.enterTrack n p).arbiter = s.arbiter := by
  simp [State.enterTrack]

@[simp] theorem State.enterLock_arbiter (s : State) (n : LaneId) (p : TunePlan) : (s.enterLock n p).arbiter = s.arbiter := by
  simp [State.enterLock]

@[simp] theorem State.recoverLock_arbiter (s : State) (n : LaneId) (p : TunePlan) : (s.recoverLock n p).arbiter = s.arbiter := by
  simp [State.recoverLock]

@[simp] theorem State.enterFade_arbiter (s : State) (n : LaneId) (p : TunePlan) : (s.enterFade n p).arbiter = s.arbiter := by
  simp [State.enterFade, apply_ite State.arbiter]

@[simp] theorem State.applyUpdate_arbiter (s : State) (n : LaneId) (p : TunePlan) : (s.applyUpdate n p).arbiter = s.arbiter := by
  simp [State.applyUpdate, apply_ite State.arbiter]

@[simp] theorem State.applyStop_arbiter (s : State) (n : LaneId) (notify : NotifyFlags) : (s.applyStop n notify).arbiter = s.arbiter :=
  (State.raiseIf_arbiter _ _ _).trans (State.withdrawRequest_arbiter _ n)

@[simp] theorem State.takePlan_arbiter (s : State) (n : LaneId) (plan : AcceptedPlan) : (s.takePlan n plan).arbiter = s.arbiter := by
  cases plan with
  | stop tag notify => simp [State.takePlan, State.finishTake, State.answerTaken]
  | tune tag p adjusted =>
    simp only [State.takePlan, State.finishTake, State.answerTaken, State.oweLane_arbiter, State.setAnswer_arbiter, State.modLane_arbiter]
    rcases s.applyTune_cases n p with same | ⟨-, -, -, same⟩ <;> rw [same]
    · simp [State.applyRetune]
    · simp

@[simp] theorem State.takePending_arbiter (s : State) (n : LaneId) : (s.takePending n).arbiter = s.arbiter := by
  unfold State.takePending
  split <;> simp

@[simp] theorem State.leaveForSeek_arbiter (s : State) (n : LaneId) (p : TunePlan) : (s.leaveForSeek n p).arbiter = s.arbiter := by
  simp [State.leaveForSeek]

@[simp] theorem State.actOnReport_arbiter (s : State) (n : LaneId) (p : TunePlan) (v : ReportVerdict) :
    (s.actOnReport n p v).arbiter = s.arbiter := by
  unfold State.actOnReport
  split
  · simp
  · simp
  · split
    · rfl
    · rfl
    · simp [State.actTrack, apply_ite State.arbiter]
    · simp [State.actLock, apply_ite State.arbiter]
    · simp [State.actFade, apply_ite State.arbiter]

@[simp] theorem State.switchAtSymbolEnd_arbiter (s : State) (n : LaneId) : (s.switchAtSymbolEnd n).arbiter = s.arbiter := by
  unfold State.switchAtSymbolEnd
  dsimp only
  split
  · split <;> simp
  · rfl

@[simp] theorem State.takeReport_arbiter (s : State) (n : LaneId) (p : TunePlan) (r : SymbolReport) :
    (s.takeReport n p r).arbiter = s.arbiter := by
  simp [State.takeReport, State.frameStartApply, apply_ite State.arbiter]

@[simp] theorem State.seekCycle_arbiter (s : State) (n : LaneId) (p : TunePlan) : (s.seekCycle n p).arbiter = s.arbiter := by
  simp [State.seekCycle]

@[simp] theorem State.examineSlot_arbiter (s : State) (n : LaneId) (slot : Vector Byte 64) : (s.examineSlot n slot).arbiter = s.arbiter := by
  have accepted (tag : Tag) (plan : AcceptedPlan) : (s.acceptPlan n tag plan).arbiter = s.arbiter := by
    simp [State.acceptPlan, State.holdPlan, apply_ite State.arbiter]
  unfold State.examineSlot
  dsimp only
  repeat' split
  all_goals simp [State.refusePlan, accepted]

@[simp] theorem State.offerToRouter_arbiter (s : State) (n : LaneId) (q : Packet) : (s.offerToRouter n q).arbiter = s.arbiter := by
  unfold State.offerToRouter
  split <;> rfl

/-! #### The Packet Router and the Stream Writers (R117, R130 to R135, R138, R146, R153, R156) -/

@[simp] theorem State.oweFinalCounts_arbiter (s : State) : s.oweFinalCounts.arbiter = s.arbiter :=
  (congrArg State.arbiter s.oweFinalCounts_frame :)

@[simp] theorem State.takeBlock_arbiter (s : State) (j : Fin 8) (block : Vector Byte 256) : (s.takeBlock j block).arbiter = s.arbiter := by
  unfold State.takeBlock
  split
  · rfl
  · rfl
  · rfl
  · split <;> rfl

@[simp] theorem State.nameFilter_arbiter (s : State) : s.nameFilter.arbiter = s.arbiter := by
  unfold State.nameFilter
  split
  · rfl
  · rfl
  · split <;> rfl

@[simp] theorem State.abandonLoad_arbiter (s : State) : s.abandonLoad.arbiter = s.arbiter := rfl

@[simp] theorem State.failLoad_arbiter (s : State) : s.failLoad.arbiter = s.arbiter := rfl

@[simp] theorem State.route_arbiter (s : State) (p : Packet) : (s.route p).arbiter = s.arbiter := rfl

@[simp] theorem State.swapTable_arbiter (s : State) (table : FilterTable) : (s.swapTable table).arbiter = s.arbiter := rfl

@[simp] theorem State.haltStream_arbiter (s : State) (n : StreamId) : (s.haltStream n).arbiter = s.arbiter := rfl

@[simp] theorem State.fetchStream_arbiter (s : State) (n : StreamId) (f : StreamFetch) : (s.fetchStream n f).arbiter = s.arbiter := by
  simp [State.fetchStream]

@[simp] theorem State.markWritten_arbiter (s : State) (n : StreamId) (c : BufferClose) : (s.markWritten n c).arbiter = s.arbiter := by
  simp [State.markWritten]

/-! #### Device states (R169 to R171) -/

@[simp] theorem State.finishLoad_arbiter (s : State) (block : Vector Byte 256) : (s.finishLoad block).arbiter = s.arbiter := by
  unfold State.finishLoad
  split <;> rfl

@[simp] theorem State.enterLoading_arbiter (s : State) : s.enterLoading.arbiter = s.arbiter := rfl

@[simp] theorem State.abandonStation_arbiter (s : State) : s.abandonStation.arbiter = s.arbiter := rfl

@[simp] theorem State.enterFaulted_arbiter (s : State) (reason : LoadFault) : (s.enterFaulted reason).arbiter = s.arbiter := rfl

@[simp] theorem State.endStopping_arbiter (s : State) : s.endStopping.arbiter = s.arbiter := by
  unfold State.endStopping
  dsimp only
  split <;> rfl

@[simp] theorem State.enterStopping_arbiter (s : State) : s.enterStopping.arbiter = s.arbiter :=
  (congrArg State.arbiter s.enterStopping_eq :)

/-! #### The ends of transfers (R158, R164 to R166) -/

@[simp] theorem State.endRead_arbiter (s : State) (t : Transfer) (error : Bool) (who : FaultRequester) :
    (s.endRead t error who).arbiter = s.freePort.arbiter :=
  (s.endRead_frame t error who).1

@[simp] theorem State.endWrite_arbiter (s : State) (t : Transfer) (result : WriteResult) (who : FaultRequester) :
    (s.endWrite t result who).arbiter = s.freePort.arbiter :=
  (s.endWrite_frame t result who).1

/-! ### One request outstanding per requester (R159, R160) -/

theorem State.outstanding_eq_false_iff (s : State) (r : Requester) :
    s.outstanding r = false ↔ r ∉ s.arbiter.queue ∧ ∀ k, s.inFlight = some k → k.requester ≠ some r := by
  unfold State.outstanding
  cases s.inFlight <;> simp

/-- `RequestsSingle`, of the Transfer Arbiter alone: no request waits twice, and none of the requester whose transfer is in flight. -/
def Arbiter.Single (a : Arbiter) : Prop :=
  a.queue.Nodup ∧ ∀ u r, a.port = some u → u.abandoned = false → u.kind.requester = some r → r ∉ a.queue

theorem State.inFlight_eq_some_iff {s : State} {k : TransferKind} :
    s.inFlight = some k ↔ ∃ u, s.arbiter.port = some u ∧ u.abandoned = false ∧ u.kind = k := by
  unfold State.inFlight
  cases s.arbiter.port with
  | none => simp
  | some u => cases abandoned : u.abandoned <;> simp [abandoned]

theorem requestsSingle_iff {s : State} : RequestsSingle s ↔ s.arbiter.Single := by
  refine and_congr_right' ⟨fun apart u r port owned own => ?_, fun apart k r flies own => ?_⟩
  · exact apart u.kind r (State.inFlight_eq_some_iff.2 ⟨u, port, owned, rfl⟩) own
  · obtain ⟨u, port, owned, rfl⟩ := State.inFlight_eq_some_iff.1 flies
    exact apart u r port owned own

section
variable {s t : State}

/-- With nothing in flight for any requester only the Record Queue counts. -/
theorem Arbiter.Single.of_idle {a : Arbiter} (queue : a.queue.Nodup) (idle : ∀ u, a.port = some u → u.abandoned = true) : a.Single :=
  ⟨queue, fun u _ port owned => by rw [idle u port] at owned; cases owned⟩

/-- A completion leaves nothing in flight (R158). -/
theorem Arbiter.Single.freePort (h : s.arbiter.Single) : s.freePort.arbiter.Single := .of_idle h.1 nofun

/-- A request is placed only where its requester has none outstanding, so that placing requests brings no second one (R159). -/
theorem Arbiter.Single.placeRequests (h : s.arbiter.Single) : s.placeRequests.arbiter.Single := by
  obtain ⟨queue, apart⟩ := h
  have free (r : Requester) (new : r ∈ s.placedNow) := (s.outstanding_eq_false_iff r).1 ((s.mem_placedNow r).1 new).2
  refine ⟨List.nodup_append'.2 ⟨queue, s.placedNow_nodup, fun r waits new => (free r new).1 waits⟩, fun u r port owned own waits => ?_⟩
  rcases List.mem_append.1 waits with before | new
  · exact apart u r port owned own before
  · exact (free r new).2 u.kind (State.inFlight_eq_some_iff.2 ⟨u, port, owned, rfl⟩) own

@[simp] theorem State.settle_single : s.settle.arbiter.Single ↔ s.arbiter.Single := by
  refine ⟨fun ⟨queue, apart⟩ => ?_, fun h => ?_⟩
  · obtain ⟨-, port, -, -, new, placed, -⟩ := s.takeStatusNow.placeRequests_placed
    rw [State.takeStatusNow_arbiter] at port placed
    rw [State.settle, placed] at queue apart
    exact ⟨(List.nodup_append'.1 queue).1, fun u r busy owned own waits =>
      apart u r (port.trans busy) owned own (List.mem_append_left _ waits)⟩
  · exact Arbiter.Single.placeRequests (s := s.takeStatusNow) (s.takeStatusNow_arbiter ▸ h)

/-! #### Grants (R159, R161) -/

theorem State.grantWork_arbiter (granted : s.grantWork = some t) :
    ∃ u, u.kind.requester = some .fetcher ∧ t.arbiter = { s.arbiter with port := some u } := by
  have item (i : AttentionItem) : ∃ u, u.kind.requester = some .fetcher ∧ (s.issueItem i).arbiter = { s.arbiter with port := some u } := by
    cases i <;> exact ⟨_, rfl, rfl⟩
  unfold State.grantWork at granted
  repeat' split at granted
  all_goals simp only [Option.some.injEq, reduceCtorEq, Option.map_eq_some_iff] at granted
  · rw [← granted]
    exact ⟨_, rfl, rfl⟩
  · rw [← granted]
    exact ⟨_, rfl, rfl⟩
  all_goals
    obtain ⟨i, -, rfl⟩ := granted
    exact item i

/-- A transfer granted to a requester is that requester's own, and the Record Queue stays as it is. -/
theorem State.grantRequest_arbiter {r : Requester} (granted : s.grantRequest r = some t) :
    ∃ u, u.kind.requester = some r ∧ t.arbiter = { s.arbiter with port := some u } := by
  cases r with
  | fetcher =>
    simp only [State.grantRequest, State.grantFetcher] at granted
    split at granted
    · cases granted
      exact ⟨_, rfl, rfl⟩
    · exact State.grantWork_arbiter granted
  | stream n =>
    simp only [State.grantRequest, State.grantStream] at granted
    split at granted
    · rename_i u job
      cases granted
      refine ⟨u, ?_, rfl⟩
      cases own : (s.stream n).job <;> rw [own] at job <;> cases job <;> rfl
    · split at granted <;> cases granted
      exact ⟨_, rfl, rfl⟩
  | status r =>
    simp only [State.grantRequest, State.grantStatus] at granted
    split at granted <;> cases granted
    exact ⟨s.statusTransfer r, by cases r <;> rfl, rfl⟩

/-- A class-1 grant takes the request granted out of the Record Queue (R161). -/
theorem Arbiter.Single.of_grantQueue {queue later : List Requester} (single : (queue ++ later).Nodup)
    (granted : s.grantQueue later queue = some t) : t.arbiter.Single := by
  obtain ⟨before, r, rest, rfl, issued⟩ := s.grantQueue_cases later queue t granted
  obtain ⟨u, own, arbiter⟩ := State.grantRequest_arbiter issued
  have left : (r :: (rest ++ later)).Nodup := by
    rw [List.append_assoc] at single
    exact (List.nodup_append'.1 single).2.1
  obtain ⟨gone, rest⟩ := List.nodup_cons.1 left
  rw [arbiter]
  refine ⟨rest, fun v q port _ asks => ?_⟩
  cases port
  rw [own] at asks
  cases asks
  exact gone

/-- A slot write is no class-1 transfer (R159), and the Record Queue stays as it is. -/
theorem Arbiter.Single.grantSlot (free : s.arbiter.port = none) (queue : s.arbiter.queue.Nodup) (n : StreamId) :
    (s.grantSlot n).arbiter.Single := by
  unfold State.grantSlot
  split
  · refine ⟨queue, fun u r port _ own => ?_⟩
    cases port
    cases own
  · exact .of_idle queue fun u port => nomatch free.symm.trans port

theorem Arbiter.Single.of_grantAmong {queue later : List Requester} {slots : List StreamId} (free : s.arbiter.port = none)
    (single : (queue ++ later).Nodup) (granted : s.grantAmong queue later slots = some t) : t.arbiter.Single := by
  rcases s.grantAmong_cases queue later slots t granted with first | ⟨-, n, -, rfl⟩
  · exact .of_grantQueue single first
  · exact .grantSlot (s := s.setQueue later) free (List.nodup_append'.1 single).2.1 n

theorem Arbiter.Single.grantWith (free : s.arbiter.port = none) (queue : s.arbiter.queue.Nodup) (requestsWait slotWaits : Bool) :
    (s.grantWith requestsWait slotWaits).arbiter.Single := by
  have whole : (s.arbiter.now requestsWait ++ s.arbiter.later requestsWait).Nodup := (s.arbiter.now_later requestsWait).symm ▸ queue
  rcases s.grantWith_cases requestsWait slotWaits with ⟨t, granted, same⟩ | ⟨t, -, granted, same⟩ | same <;> rw [same]
  · exact .of_grantAmong (s := s.endRace) free whole granted
  · refine .of_grantAmong (s := s.endRace) free ?_ granted
    rw [List.append_nil]
    exact (List.nodup_append'.1 whole).2.1
  · exact .of_idle List.nodup_nil fun u port => nomatch free.symm.trans port

/-! #### Every command -/

/-- But for a grant and the resets a command leaves the Arbiter alone, or frees the port at a completion, and requests are placed at its end. -/
theorem Arbiter.Single.exec (h : s.arbiter.Single) (c : Instr) : Answers (·.arbiter.Single) (exec c s) := by
  have freed := h.freePort
  cases c
  case transferGrant =>
    dsimp only [Machine.exec, execTransferGrant]
    split
    · exact answers_next.2 h
    · rename_i free
      exact answers_next.2 (.grantWith free h.1 _ _)
  case softReset =>
    refine answers_next.2 (.of_idle List.nodup_nil fun u port => ?_)
    obtain ⟨t, -, rfl⟩ := Option.map_eq_some_iff.1 port
    rfl
  case powerOnReset => exact answers_next.2 (.of_idle List.nodup_nil nofun)
  case impulseEvent | symbolReport | surveyReport | seekTimerExpiry | surveyIntervalExpiry | applyWindowExpiry | packetGate
      | magnitudeFallsBack | stationTimerTick =>
    dsimp only [Machine.exec, execImpulseEvent, execSymbolReport, execSurveyReport, execSeekTimerExpiry, execSurveyIntervalExpiry,
      execApplyWindowExpiry, execPacketGate, execMagnitudeFallsBack, execStationTimerTick]
    repeat' split
    all_goals simp [h]
  case routePacket | filterSwap | flushTimerExpiry =>
    dsimp only [Machine.exec, execRoutePacket, execFilterSwap, execFlushTimerExpiry]
    repeat' split
    all_goals simp [h]
  case statusIntervalExpiry | stopComplete | runSet | runClear =>
    dsimp only [Machine.exec, execStatusIntervalExpiry, execStopComplete, execRunSet, execRunClear]
    repeat' split
    all_goals simp [h]
  case exchangeBaseLow | exchangeBaseHigh | attentionLane | attentionStream | attentionFilter | attentionStatusNow | noticeClear | noticeEnable
      | registerWriteIgnored =>
    dsimp only [Machine.exec, execExchangeBaseLow, execExchangeBaseHigh, execAttentionLane, execAttentionStream, execAttentionFilter,
      execAttentionStatusNow, execNoticeClear, execNoticeEnable, execRegisterWriteIgnored]
    repeat' split
    all_goals simp [h]
  case stationBlockReadComplete | laneSlotReadComplete | filterBlockReadComplete | streamRecordReadComplete | bufferRecordReadComplete =>
    dsimp only [Machine.exec, execStationBlockReadComplete, execLaneSlotReadComplete, execFilterBlockReadComplete,
      execStreamRecordReadComplete, execBufferRecordReadComplete]
    repeat' split
    all_goals simp [h, freed]
  case laneSlotWriteBackComplete | fillingWriteComplete | slotWriteComplete | closingFieldsWriteComplete | markWriteComplete
      | emptyMarkWriteComplete | streamWriteBackComplete | statusRecordWriteComplete =>
    dsimp only [Machine.exec, execLaneSlotWriteBackComplete, execFillingWriteComplete, execSlotWriteComplete, execClosingFieldsWriteComplete,
      execMarkWriteComplete, execEmptyMarkWriteComplete, execStreamWriteBackComplete, execStatusRecordWriteComplete]
    repeat' split
    all_goals simp [h, freed]

theorem Arbiter.Single.step (h : s.arbiter.Single) : Answers (·.arbiter.Single) (step s) := by
  unfold Machine.step
  split
  · exact answers_next.2 h
  · rename_i c rest _
    exact Arbiter.Single.exec (s := { s with pending := rest }) h c

/-! #### Thirty requesters -/

/-- All places a class-1 request can come from (R159). -/
def allRequesters : List Requester :=
  .fetcher :: allStreams.map .stream ++ allRecords.map .status

theorem mem_allRequesters (r : Requester) : r ∈ allRequesters := by
  cases r with
  | fetcher => exact List.mem_cons_self
  | stream n => simp [allRequesters, mem_allStreams]
  | status r => simp [allRequesters, mem_allRecords]

theorem requests_length_le {queue : List Requester} (single : queue.Nodup) : queue.length ≤ 30 :=
  (single.subperm fun r _ => mem_allRequesters r).length_le

/-- Settles O50: `Arbiter.Single.step`, and a queue without repetitions is no longer than the list of all requesters. -/
theorem requestsKeptSingle : Obligations.RequestsKeptSingle := by
  intro s t single stepped
  have kept := (requestsSingle_iff.1 single).step t stepped
  exact ⟨requestsSingle_iff.2 kept, requests_length_le kept.1⟩

end
end Sys2Proof.Machine
end

section
namespace Sys2Proof.Machine

section
variable {s : State}

/-! ### The choice among slot writes (R163) -/

/-- The order of R163 as one number: the priority number first, then how far the stream stands above the rotation point. -/
def slotRank (s : State) (n : StreamId) : Nat :=
  16 * (s.stream n).priority.val + rotationDistance s.arbiter.rotation n

theorem rotationDistance_lt (rotation n : StreamId) : rotationDistance rotation n < 16 := Nat.mod_lt _ (by decide)

/-- The distance of a stream is the number of steps from the rotation point plus 1 to it, wrapping from 15 to 0. -/
theorem rotationDistance_eq_iff {rotation n : StreamId} {i : Nat} (below : i < 16) :
    rotationDistance rotation n = i ↔ n.val = (rotation.val + 1 + i) % 16 := by
  unfold rotationDistance
  omega

theorem slotBefore_iff (s : State) (a b : StreamId) : slotBefore s a b = true ↔ slotRank s a < slotRank s b := by
  have near := rotationDistance_lt s.arbiter.rotation a
  have far := rotationDistance_lt s.arbiter.rotation b
  simp only [slotBefore, slotRank, Bool.or_eq_true, Bool.and_eq_true, decide_eq_true_eq, beq_iff_eq, Fin.lt_def, Fin.ext_iff]
  omega

theorem slotRank_injective (s : State) : Function.Injective (slotRank s) := by
  intro a b same
  have near := rotationDistance_lt s.arbiter.rotation a
  have far := rotationDistance_lt s.arbiter.rotation b
  have distance : rotationDistance s.arbiter.rotation a = rotationDistance s.arbiter.rotation b := by
    unfold slotRank at same
    omega
  exact Fin.ext (((rotationDistance_eq_iff far).1 distance).trans ((rotationDistance_eq_iff far).1 rfl).symm)

theorem chooseSlot_isSome {ns : List StreamId} {n : StreamId} (member : n ∈ ns) : ∃ m, chooseSlot s ns = some m := by
  cases ns with
  | nil => cases member
  | cons a as =>
    simp only [chooseSlot]
    repeat' split
    all_goals exact ⟨_, rfl⟩

/-- The stream chosen comes first of those it is chosen among. -/
theorem chooseSlot_least {ns : List StreamId} {n : StreamId} (chosen : chooseSlot s ns = some n) : ∀ m ∈ ns, slotRank s n ≤ slotRank s m := by
  induction ns generalizing n with
  | nil => cases chosen
  | cons a as ih =>
    rw [chooseSlot] at chosen
    cases first : chooseSlot s as with
    | none =>
      rw [first] at chosen
      cases chosen
      refine List.forall_mem_cons.2 ⟨le_rfl, fun m member => ?_⟩
      obtain ⟨k, found⟩ := chooseSlot_isSome (s := s) member
      exact nomatch first.symm.trans found
    | some k =>
      have least := ih first
      simp only [first] at chosen
      by_cases before : slotBefore s k a = true
      · rw [if_pos before] at chosen
        cases chosen
        exact List.forall_mem_cons.2 ⟨((slotBefore_iff s _ a).1 before).le, least⟩
      · rw [if_neg before] at chosen
        cases chosen
        have below := not_lt.1 (mt (slotBefore_iff s k a).2 before)
        exact List.forall_mem_cons.2 ⟨le_rfl, fun m member => below.trans (least m member)⟩

theorem chooseSlot_eq_some_iff {ns : List StreamId} {n : StreamId} :
    chooseSlot s ns = some n ↔ n ∈ ns ∧ ∀ m ∈ ns, slotRank s n ≤ slotRank s m := by
  refine ⟨fun chosen => ⟨chooseSlot_mem s ns n chosen, chooseSlot_least chosen⟩, fun ⟨member, least⟩ => ?_⟩
  obtain ⟨m, chosen⟩ := chooseSlot_isSome (s := s) member
  have same : slotRank s m = slotRank s n := le_antisymm (chooseSlot_least chosen n member) (least m (chooseSlot_mem s ns m chosen))
  rw [chosen, slotRank_injective s same]

theorem State.mem_slotRequests {n : StreamId} : n ∈ s.slotRequests ↔ (s.stream n).slotWaiting = true := by
  simp [State.slotRequests, mem_allStreams]

/-- Of two streams the one met first upward from the rotation point plus 1 is the less distant (R163). -/
theorem rotationDistance_le_iff {rotation n m : StreamId} :
    rotationDistance rotation n ≤ rotationDistance rotation m ↔
      ∃ i j : Nat, i ≤ j ∧ j < 16 ∧ n.val = (rotation.val + 1 + i) % 16 ∧ m.val = (rotation.val + 1 + j) % 16 := by
  constructor
  · intro nearer
    exact ⟨_, _, nearer, rotationDistance_lt _ _, (rotationDistance_eq_iff (rotationDistance_lt _ _)).1 rfl,
      (rotationDistance_eq_iff (rotationDistance_lt _ _)).1 rfl⟩
  · rintro ⟨i, j, order, below, near, far⟩
    rw [(rotationDistance_eq_iff (order.trans_lt below)).2 near, (rotationDistance_eq_iff below).2 far]
    exact order

theorem slotRank_le_iff {n m : StreamId} :
    slotRank s n ≤ slotRank s m ↔ (s.stream n).priority ≤ (s.stream m).priority ∧
      ((s.stream m).priority = (s.stream n).priority →
        rotationDistance s.arbiter.rotation n ≤ rotationDistance s.arbiter.rotation m) := by
  have near := rotationDistance_lt s.arbiter.rotation n
  have far := rotationDistance_lt s.arbiter.rotation m
  simp only [slotRank, Fin.le_def, Fin.ext_iff]
  omega

/-- Settles O48: the stream chosen is the one of least `slotRank` among those that wait. -/
theorem slotChoice : Obligations.SlotChoice := by
  intro s n
  simp only [chooseSlot_eq_some_iff, State.mem_slotRequests, slotRank_le_iff, rotationDistance_le_iff]

/-! ### Placing requests (R159 to R162), STATUS-NOW (R172, R173) -/

theorem any_id_eq_false_iff {k : Nat} (v : Vector Bool k) : Vec.any id v = false ↔ ∀ n : Fin k, v[n] = false := by
  rw [Bool.eq_false_iff, ne_eq, Vec.any_iff]
  simp [Fin.forall_iff]

theorem PendingSet.onlyStatusNow_iff (p : PendingSet) :
    p.onlyStatusNow = true ↔ (∀ n : LaneId, p.lanes[n] = false) ∧ p.filter = false ∧ ∀ n : StreamId, p.streams[n] = false := by
  simp only [PendingSet.onlyStatusNow, Bool.not_eq_true', Bool.or_eq_false_iff, any_id_eq_false_iff, and_assoc]

/-- STATUS-NOW is first in turn with no item in hand (R172). -/
theorem State.takeStatusNow_eq (s : State) :
    s.takeStatusNow =
      if s.link.device = .running ∧ s.fetcher.item = none ∧ s.fetcher.pendingSet.statusNow = true ∧ s.fetcher.pendingSet.onlyStatusNow = true then
        State.oweAll { s with fetcher := { s.fetcher with pendingSet := { s.fetcher.pendingSet with statusNow := false } } }
      else s := by
  simp only [State.takeStatusNow, Bool.and_eq_true, beq_iff_eq, Option.isNone_iff_eq_none, and_assoc]

/-- Settles O4: `State.placeRequests_placed`, and STATUS-NOW by its condition (`State.takeStatusNow_eq`). -/
theorem settlePlacesRequests : Obligations.SettlePlacesRequests := by
  refine ⟨fun s => s.takeStatusNow.placeRequests_placed, fun s => ⟨fun running noItem waits noLane noFilter noStream => ?_, fun other => ?_⟩⟩
  · have only := (PendingSet.onlyStatusNow_iff _).2 ⟨noLane, noFilter, noStream⟩
    rw [s.takeStatusNow_eq, if_pos ⟨running, noItem, waits, only⟩]
    rfl
  · rw [s.takeStatusNow_eq, if_neg]
    rintro ⟨running, noItem, waits, only⟩
    obtain ⟨noLane, noFilter, noStream⟩ := (PendingSet.onlyStatusNow_iff _).1 only
    rcases other with device | item | absent | ⟨n, lane⟩ | filter | ⟨n, stream⟩
    · exact device running
    · exact item noItem
    · simp [absent] at waits
    · simp [noLane n] at lane
    · simp [noFilter] at filter
    · simp [noStream n] at stream

/-! ### Transfers that a soft reset abandoned (R166), and the resets (R178) -/

theorem State.freePort_abandoned {u : Transfer} (port : s.arbiter.port = some u) (abandoned : u.abandoned = true) :
    s.freePort.arbiter = { s.arbiter with port := none } := by
  simp [State.freePort, port, abandoned]

/-- Settles O7: `exec_abandoned`, whether the write was accepted or not. -/
theorem abandonedTransferIsHandedToNobody : Obligations.AbandonedTransferIsHandedToNobody := by
  intro c s u port abandoned completes
  have arbiter := State.freePort_abandoned port abandoned
  rcases exec_abandoned port abandoned completes with freed | accepted
  · exact ⟨_, freed, arbiter, rfl⟩
  · exact ⟨_, accepted, arbiter, rfl⟩

/-- Settles O6: both resets, by their definitions. -/
theorem resetsPutResetValues : Obligations.ResetsPutResetValues :=
  ⟨fun _ => rfl, fun _ => rfl⟩

end
end Sys2Proof.Machine
end

section
namespace Sys2Proof.Machine

/-! PROOFS. The notice registers (R176, R177), the Status Records owed at the status interval and at the end of a stop (R171, R173), the
Exchange Base (R167). -/

/-! ### Causes raised and enabled (R176, R177) -/

/-- The position of a cause in the notice registers as a number (section 11.3). -/
def Cause.position : Cause → Nat
  | .plan => 0
  | .lane => 1
  | .buffer => 2
  | .stream => 3
  | .filter => 4
  | .fault => 5
  | .stopped => 6

theorem Cause.position_lt (c : Cause) : c.position < 7 := by
  cases c <;> decide

theorem Cause.bit_getLsbD (c : Cause) (i : Nat) : c.bit.getLsbD i = decide (i = c.position) := by
  have single : c.bit = BitVec.twoPow 7 c.position := by cases c <;> rfl
  rw [single, BitVec.getLsbD_twoPow, decide_eq_true c.position_lt, Bool.true_and]
  exact decide_eq_decide.2 eq_comm

theorem getLsbD_setWidth_below {w k i : Nat} (value : BitVec w) (below : i < k) : (value.setWidth k).getLsbD i = value.getLsbD i := by
  rw [BitVec.getLsbD_setWidth, decide_eq_true below, Bool.true_and]

/-- No cause is both set and enabled. -/
theorem noneEnabled_iff {notice enable : BitVec 7} :
    notice &&& enable = 0 ↔ ∀ i, i < 7 → (notice.getLsbD i && enable.getLsbD i) = false := by
  constructor
  · intro quiet i _
    rw [← BitVec.getLsbD_and, quiet]
    exact BitVec.getLsbD_zero
  · intro quiet
    refine BitVec.eq_of_getLsbD_eq fun i below => ?_
    rw [BitVec.getLsbD_and, quiet i below]
    exact BitVec.getLsbD_zero.symm

theorem someEnabled_of_bit {notice enable : BitVec 7} (bit : ∃ i, i < 7 ∧ (notice.getLsbD i && enable.getLsbD i) = true) :
    notice &&& enable ≠ 0 := by
  intro quiet
  obtain ⟨i, below, both⟩ := bit
  rw [noneEnabled_iff.1 quiet i below] at both
  cases both

section
variable {s : State} {notice enable : BitVec 7}

/-- A message goes out when the set of causes both set and enabled becomes non-empty (R177). -/
theorem State.setNotices_messages (s : State) (notice enable : BitVec 7) : (s.setNotices notice enable).output.messages =
    if s.link.notice &&& s.link.enable = 0 ∧ notice &&& enable ≠ 0 then s.output.messages + 1 else s.output.messages := by
  simp only [State.setNotices, Bool.and_eq_true, beq_iff_eq, bne_iff_ne]

theorem State.setNotices_sends (before : s.link.notice &&& s.link.enable = 0) (now : notice &&& enable ≠ 0) :
    (s.setNotices notice enable).output.messages = s.output.messages + 1 := by
  rw [State.setNotices_messages, if_pos ⟨before, now⟩]

theorem State.setNotices_silent (still : s.link.notice &&& s.link.enable ≠ 0 ∨ notice &&& enable = 0) :
    (s.setNotices notice enable).output.messages = s.output.messages := by
  rw [State.setNotices_messages, if_neg fun ⟨quiet, live⟩ => still.elim (· quiet) live]

/-- To clear causes sends no message (R176, R177): none of the causes left is newly enabled. -/
theorem State.setNotices_clear_output (s : State) (mask : BitVec 7) :
    (s.setNotices (s.link.notice &&& mask) s.link.enable).output = s.output := by
  have silent : (s.setNotices (s.link.notice &&& mask) s.link.enable).output.messages = s.output.messages := by
    refine State.setNotices_silent ((em _).symm.imp_right fun quiet => ?_)
    rw [BitVec.and_assoc, BitVec.and_comm mask, ← BitVec.and_assoc, quiet]
    exact BitVec.zero_and
  exact congrArg (fun m => { s.output with messages := m }) silent

theorem State.raise_sends {c : Cause} (enabled : s.link.enable.getLsbD c.position = true) (before : s.link.notice &&& s.link.enable = 0) :
    (s.raise c).output.messages = s.output.messages + 1 := by
  refine State.setNotices_sends before (someEnabled_of_bit ⟨c.position, c.position_lt, ?_⟩)
  simp [Cause.bit_getLsbD, enabled]

theorem State.raise_silent {c : Cause} (still : s.link.enable.getLsbD c.position = false ∨ s.link.notice &&& s.link.enable ≠ 0) :
    (s.raise c).output.messages = s.output.messages := by
  refine State.setNotices_silent ?_
  rcases em (s.link.notice &&& s.link.enable = 0) with quiet | live
  · have disabled := still.resolve_right (not_not.2 quiet)
    refine .inr (noneEnabled_iff.2 fun i below => ?_)
    have old := noneEnabled_iff.1 quiet i below
    rw [BitVec.getLsbD_or, Cause.bit_getLsbD, Bool.and_or_distrib_right, old, Bool.false_or]
    by_cases own : i = c.position
    · rw [own, disabled, Bool.and_false]
    · rw [decide_eq_false own, Bool.false_and]
  · exact .inl live

end

/-- Settles O59: each write is one `State.setNotices`, whose message turns on the causes both set and enabled before and after. -/
theorem noticeWrites : Obligations.NoticeWrites := by
  refine ⟨fun s c k position => ?_, fun s value => ⟨⟨_, rfl, fun i below => ?_, rfl, ?_, ?_⟩, ⟨_, rfl, fun i below => ?_, rfl, ?_, ?_, rfl⟩⟩⟩
  · obtain rfl : k = c.position := position.trans (by cases c <;> rfl)
    refine ⟨fun i => ?_, fun enabled before => State.raise_sends enabled (noneEnabled_iff.2 before),
      fun still => State.raise_silent (still.imp_right someEnabled_of_bit), rfl, rfl, fun _ => rfl⟩
    rw [State.raise_notice, BitVec.getLsbD_or, Cause.bit_getLsbD]
  · rw [State.setNotices_notice, BitVec.getLsbD_and, BitVec.getLsbD_not, decide_eq_true below, Bool.true_and,
      getLsbD_setWidth_below value below]
  · exact s.setNotices_clear_output _
  · exact congrArg (fun o => { s with output := o }) (s.setNotices_clear_output _)
  · rw [State.setNotices_enable, getLsbD_setWidth_below value below]
  · rintro before ⟨i, below, both⟩
    refine State.setNotices_sends (noneEnabled_iff.2 before) (someEnabled_of_bit ⟨i, below, ?_⟩)
    rw [getLsbD_setWidth_below value below, both]
  · intro still
    refine State.setNotices_silent (still.imp someEnabled_of_bit fun quiet => noneEnabled_iff.2 fun i below => ?_)
    rw [getLsbD_setWidth_below value below, quiet i below]

/-! ### The status interval and the end of a stop (R171, R173) -/

/-- A Stream Writer that holds back no stop: CLOSED or HALTED, with no transfer owed, waiting or in flight (R171). -/
structure StreamWriter.Stopped (w : StreamWriter) : Prop where
  phase : w.phase = .closed ∨ w.phase = .halted
  job : w.job = .none
  owed : w.owed = false
  inFlight : w.inFlight = none
  slotWaiting : w.slotWaiting = false

theorem StreamWriter.stopped_iff {w : StreamWriter} : w.Stopped ↔ w.atRest = true ∧ w.slotWaiting = false := by
  simp only [StreamWriter.atRest, Bool.and_eq_true, Bool.or_eq_true, beq_iff_eq, Bool.not_eq_true', Option.isNone_iff_eq_none]
  exact ⟨fun ⟨phase, job, owed, inFlight, slotWaiting⟩ => ⟨⟨⟨⟨phase, job⟩, owed⟩, inFlight⟩, slotWaiting⟩,
    fun ⟨⟨⟨⟨phase, job⟩, owed⟩, inFlight⟩, slotWaiting⟩ => ⟨phase, job, owed, inFlight, slotWaiting⟩⟩

/-- A stop that is complete, with its final group not begun (R171, log entries 3 and 9). -/
structure State.StopDrained (s : State) : Prop where
  final : s.status.finalGroup = false
  queue : s.router.queue = []
  inHand : s.router.inHand = none
  shadow : s.router.shadow = .none
  streams : ∀ n, (s.stream n).Stopped
  answers : ∀ n, (s.answer n).owed = false
  noRequest : s.arbiter.queue = []
  port : s.arbiter.port = none

section
variable {s : State}

theorem State.streams_atRest_iff : s.streams.toList.all StreamWriter.atRest = true ↔ ∀ n, (s.stream n).atRest = true := by
  simp [State.stream, Fin.forall_iff]

theorem State.slotRequests_empty_iff : s.slotRequests.isEmpty = true ↔ ∀ n, (s.stream n).slotWaiting = false := by
  simp [State.slotRequests, mem_allStreams]

theorem PlanFetcher.owes_eq_false_iff : s.fetcher.owes = false ↔ ∀ n, (s.answer n).owed = false := by
  rw [PlanFetcher.owes, Bool.eq_false_iff, ne_eq, Vec.any_iff]
  simp [State.answer, Fin.forall_iff]

theorem State.writeBackInFlight_idle (port : s.arbiter.port = none) : s.writeBackInFlight = false := by
  simp [State.writeBackInFlight, State.inFlight, port]

theorem State.stopDrained_iff : s.StopDrained ↔ s.status.finalGroup = false ∧ s.stopIsComplete = true := by
  simp only [State.stopIsComplete, State.arbiterQuiet, Bool.and_eq_true, Bool.not_eq_true', List.isEmpty_iff (l := s.router.queue),
    List.isEmpty_iff (l := s.arbiter.queue), Option.isNone_iff_eq_none, beq_iff_eq, State.streams_atRest_iff, State.slotRequests_empty_iff,
    PlanFetcher.owes_eq_false_iff]
  constructor
  · intro ⟨final, queue, inHand, shadow, streams, answers, noRequest, port⟩
    obtain ⟨atRest, noSlot⟩ := forall_and.1 fun n => StreamWriter.stopped_iff.1 (streams n)
    exact ⟨final, ⟨⟨⟨⟨⟨queue, inHand⟩, atRest⟩, answers⟩, State.writeBackInFlight_idle port⟩, ⟨noRequest, port⟩, noSlot⟩, shadow⟩
  · intro ⟨final, ⟨⟨⟨⟨⟨queue, inHand⟩, atRest⟩, answers⟩, _⟩, ⟨noRequest, port⟩, noSlot⟩, shadow⟩
    exact ⟨final, queue, inHand, shadow, fun n => StreamWriter.stopped_iff.2 ⟨atRest n, noSlot n⟩, answers, noRequest, port⟩

theorem execStopComplete_drained (stopping : s.link.device = .stopping) (drained : s.StopDrained) :
    exec .stopComplete s = .next (State.settle (State.oweAll { s with status := { s.status with finalGroup := true } })) := by
  obtain ⟨final, complete⟩ := State.stopDrained_iff.1 drained
  simp [exec, execStopComplete, stopping, final, complete]

theorem execStopComplete_waits (waits : ¬s.StopDrained) : exec .stopComplete s = .next s := by
  refine if_neg fun complete => waits (State.stopDrained_iff.2 ?_)
  simp only [Bool.and_eq_true, Bool.not_eq_true'] at complete
  obtain ⟨⟨-, final⟩, drained⟩ := complete
  exact ⟨final, drained⟩

theorem execStatusIntervalExpiry_due (due : s.status.intervalTimer = some s.time) (runs : s.station.statusInterval ≠ 0) :
    exec .statusIntervalExpiry s = .next (State.settle (State.oweAll { s with status := { s.status with
      intervalTimer := some (s.time + BitVec.ofNat 48 (s.station.statusInterval * 10000)) } })) := by
  have restart : statusDeadline s.time s.station.statusInterval = some (s.time + BitVec.ofNat 48 (s.station.statusInterval * 10000)) := if_neg runs
  rw [← restart]
  exact if_pos (expiresAt_iff.2 due)

end

/-- Settles O55: the stop completes exactly when `State.StopDrained` holds, and what the last clause names is its negation. -/
theorem thirteenRecordsOwed : Obligations.ThirteenRecordsOwed := by
  refine ⟨fun s due runs => .of_settle (execStatusIntervalExpiry_due due runs),
    fun s stopping final queue inHand shadow streams answers noRequest port => .of_settle (execStopComplete_drained stopping
      ⟨final, queue, inHand, shadow, fun n => ?_, answers, noRequest, port⟩),
    fun s _ held => execStopComplete_waits fun drained => ?_⟩
  · obtain ⟨phase, job, owed, inFlight, slotWaiting⟩ := streams n
    exact ⟨phase, job, owed, inFlight, slotWaiting⟩
  · rcases held with final | queue | inHand | shadow | ⟨n, stream⟩ | ⟨n, owed⟩ | request | port
    · exact absurd (drained.final.symm.trans final) Bool.false_ne_true
    · exact queue drained.queue
    · exact inHand drained.inHand
    · exact shadow drained.shadow
    · obtain ⟨phase, job, owed, inFlight, slotWaiting⟩ := drained.streams n
      rcases stream with ⟨notClosed, notHalted⟩ | other | owes | flies | waits
      · exact phase.elim notClosed notHalted
      · exact other job
      · exact absurd (owed.symm.trans owes) Bool.false_ne_true
      · exact flies inFlight
      · exact absurd (slotWaiting.symm.trans waits) Bool.false_ne_true
    · exact absurd ((drained.answers n).symm.trans owed) Bool.false_ne_true
    · exact request drained.noRequest
    · exact port drained.port

/-! ### The Exchange Base (R167) -/

theorem DeviceState.baseWritable_iff {device : DeviceState} : device.baseWritable = true ↔ device = .idle ∨ device = .faulted := by
  cases device <;> decide

theorem append_toNat (high low : BitVec 32) : (high ++ low).toNat = high.toNat * 2 ^ 32 + low.toNat := by
  rw [BitVec.toNat_append, ← Nat.shiftLeft_add_eq_or_of_lt low.isLt, Nat.shiftLeft_eq]

/-- The low 12 bits of the low half are 0, the others are those written (R167). -/
theorem lowHalf_toNat (value : BitVec 32) : (lowHalf value).toNat = value.toNat / 4096 * 4096 := by
  have mask : ∀ i, i < 32 → (0xFFFFF000#32).getLsbD i = decide (12 ≤ i) := by decide
  have shifted : lowHalf value = value >>> 12 <<< 12 := by
    refine BitVec.eq_of_getLsbD_eq fun i below => ?_
    rw [lowHalf, BitVec.getLsbD_and, mask i below, BitVec.getLsbD_shiftLeft, BitVec.getLsbD_ushiftRight, decide_eq_true below]
    by_cases low : i < 12
    · simp [low]
    · have high := not_lt.1 low
      simp [low, high]
  have inside := value.isLt
  rw [shifted, BitVec.toNat_shiftLeft, BitVec.toNat_ushiftRight, Nat.shiftLeft_eq, Nat.shiftRight_eq_div_pow]
  omega

theorem exec_exchangeBase {s : State} (writable : s.link.device = .idle ∨ s.link.device = .faulted) (value : BitVec 32) :
    exec (.exchangeBaseLow value) s = .next (s.setBase (s.link.base.extractLsb' 32 32 ++ lowHalf value)) ∧
    exec (.exchangeBaseHigh value) s = .next (s.setBase (value ++ s.link.base.extractLsb' 0 32)) :=
  ⟨if_pos (DeviceState.baseWritable_iff.2 writable), if_pos (DeviceState.baseWritable_iff.2 writable)⟩

/-- Settles O58: the halves of the new base as numbers (`append_toNat`). -/
theorem exchangeBaseWrites : Obligations.ExchangeBaseWrites := by
  refine fun s value => ⟨fun writable => ?_, fun notIdle notFaulted => ?_⟩
  · obtain ⟨low, high⟩ := exec_exchangeBase writable value
    refine ⟨⟨_, low, ?_⟩, ⟨_, high, ?_⟩⟩
    · have inside := s.link.base.isLt
      rw [append_toNat, lowHalf_toNat, BitVec.extractLsb'_toNat, Nat.shiftRight_eq_div_pow]
      omega
    · rw [append_toNat, BitVec.extractLsb'_toNat, Nat.shiftRight_zero]
  · have ignored := mt DeviceState.baseWritable_iff.1 (not_or.2 ⟨notIdle, notFaulted⟩)
    exact ⟨if_neg ignored, if_neg ignored⟩

end Sys2Proof.Machine
end

section
namespace Sys2Proof.Machine

/-! PROOFS. What every command does (spec/95): it answers a next state and keeps the commands that wait behind it, block by block of the part;
then the step that takes the command at the front. -/

/-! ### The waiting commands: no operation of the lanes and the Survey Unit touches them (spec/01, 04, 05) -/

@[simp] theorem State.setFront_pending (s : State) (m : Mast) (f : MastFrontEnd) : (s.setFront m f).pending = s.pending := by
  cases m <;> rfl

@[simp] theorem State.impulse_pending (s : State) (m : Mast) : (s.impulse m).pending = s.pending :=
  s.setFront_pending m _

@[simp] theorem State.fileRequest_pending (s : State) (n : LaneId) (c : SurveyClass) : (s.fileRequest n c).pending = s.pending :=
  (congrArg State.pending (s.fileRequest_frame n c) :)

@[simp] theorem State.endDwell_pending (s : State) (d : Dwell) (p : TunePlan) : (s.endDwell d p).pending = s.pending :=
  State.surveySettle_pending _

@[simp] theorem State.takeSurveyReport_pending (s : State) (d : Dwell) (p : TunePlan) (signal error : BitVec 16) :
    (s.takeSurveyReport d p signal error).pending = s.pending := by
  simp only [State.takeSurveyReport, apply_ite State.pending, State.endDwell_pending, ite_self]

@[simp] theorem State.enterSeek_pending (s : State) (n : LaneId) (p : TunePlan) : (s.enterSeek n p).pending = s.pending := by
  simp [State.enterSeek]

@[simp] theorem State.enterTrack_pending (s : State) (n : LaneId) (p : TunePlan) : (s.enterTrack n p).pending = s.pending := by
  simp [State.enterTrack]

@[simp] theorem State.enterLock_pending (s : State) (n : LaneId) (p : TunePlan) : (s.enterLock n p).pending = s.pending := by
  simp [State.enterLock]

@[simp] theorem State.recoverLock_pending (s : State) (n : LaneId) (p : TunePlan) : (s.recoverLock n p).pending = s.pending := by
  simp [State.recoverLock]

@[simp] theorem State.enterFade_pending (s : State) (n : LaneId) (p : TunePlan) : (s.enterFade n p).pending = s.pending := by
  unfold State.enterFade
  cases p.mastPolicy.isAuto <;> simp

@[simp] theorem State.applyStop_pending (s : State) (n : LaneId) (notify : NotifyFlags) : (s.applyStop n notify).pending = s.pending :=
  (State.raiseIf_pending _ _ _).trans (State.withdrawRequest_pending _ n)

@[simp] theorem State.applyRetune_pending (s : State) (n : LaneId) (p : TunePlan) : (s.applyRetune n p).pending = s.pending :=
  State.enterSeek_pending _ n p

@[simp] theorem State.applyUpdate_pending (s : State) (n : LaneId) (p : TunePlan) : (s.applyUpdate n p).pending = s.pending := by
  unfold State.applyUpdate
  cases p.mastPolicy.isAuto <;> simp

@[simp] theorem State.applyTune_pending (s : State) (n : LaneId) (p : TunePlan) : (s.applyTune n p).pending = s.pending := by
  rcases s.applyTune_cases n p with retune | ⟨-, -, -, update⟩
  · rw [retune, State.applyRetune_pending]
  · rw [update, State.applyUpdate_pending]

@[simp] theorem State.takePlan_pending (s : State) (n : LaneId) (plan : AcceptedPlan) : (s.takePlan n plan).pending = s.pending := by
  cases plan with
  | tune tag p adjusted => exact s.applyTune_pending n p
  | stop tag notify => exact s.applyStop_pending n notify

@[simp] theorem State.takePending_pending (s : State) (n : LaneId) : (s.takePending n).pending = s.pending := by
  unfold State.takePending
  split
  · rfl
  · exact s.takePlan_pending n _

@[simp] theorem State.leaveForSeek_pending (s : State) (n : LaneId) (p : TunePlan) : (s.leaveForSeek n p).pending = s.pending := by
  simp [State.leaveForSeek]

@[simp] theorem State.actTrack_pending (s : State) (n : LaneId) (p : TunePlan) (used : Bool) : (s.actTrack n p used).pending = s.pending := by
  simp only [State.actTrack, apply_ite State.pending, State.enterLock_pending, State.modLane_pending, ite_self]

@[simp] theorem State.actLock_pending (s : State) (n : LaneId) (p : TunePlan) (used : Bool) : (s.actLock n p used).pending = s.pending := by
  simp only [State.actLock, apply_ite State.pending, State.enterFade_pending, State.modLane_pending, ite_self]

@[simp] theorem State.actFade_pending (s : State) (n : LaneId) (p : TunePlan) (used : Bool) : (s.actFade n p used).pending = s.pending := by
  simp only [State.actFade, apply_ite State.pending, State.recoverLock_pending, State.leaveForSeek_pending, State.modLane_pending, ite_self]

@[simp] theorem State.actOnReport_pending (s : State) (n : LaneId) (p : TunePlan) (v : ReportVerdict) :
    (s.actOnReport n p v).pending = s.pending := by
  unfold State.actOnReport
  split
  · exact s.enterTrack_pending n p
  · exact s.leaveForSeek_pending n p
  · split
    · rfl
    · rfl
    · exact s.actTrack_pending n p v.used
    · exact s.actLock_pending n p v.used
    · exact s.actFade_pending n p v.used

@[simp] theorem State.switchAtSymbolEnd_pending (s : State) (n : LaneId) : (s.switchAtSymbolEnd n).pending = s.pending := by
  unfold State.switchAtSymbolEnd
  simp only
  split
  · split <;> simp
  · rfl

@[simp] theorem State.frameStartApply_pending (s : State) (n : LaneId) (frameStart : Bool) :
    (s.frameStartApply n frameStart).pending = s.pending := by
  cases frameStart
  · rfl
  · exact s.takePending_pending n

@[simp] theorem State.takeReport_pending (s : State) (n : LaneId) (p : TunePlan) (r : SymbolReport) :
    (s.takeReport n p r).pending = s.pending := by
  simp [State.takeReport]

@[simp] theorem State.seekCycle_pending (s : State) (n : LaneId) (p : TunePlan) : (s.seekCycle n p).pending = s.pending := by
  simp [State.seekCycle]

@[simp] theorem State.offerToRouter_pending (s : State) (n : LaneId) (p : Packet) : (s.offerToRouter n p).pending = s.pending := by
  unfold State.offerToRouter
  split <;> rfl

/-! ### The waiting commands: completions, staging, the Router, the Stream Writers (spec/06 to 09) -/

@[simp] theorem State.endRead_pending (s : State) (t : Transfer) (error : Bool) (who : FaultRequester) :
    (s.endRead t error who).pending = s.pending :=
  (congrArg State.pending (s.endRead_frame t error who).2 :)

@[simp] theorem State.endWrite_pending (s : State) (t : Transfer) (result : WriteResult) (who : FaultRequester) :
    (s.endWrite t result who).pending = s.pending :=
  (congrArg State.pending (s.endWrite_frame t result who).2 :)

@[simp] theorem State.acceptPlan_pending (s : State) (n : LaneId) (tag : Tag) (plan : AcceptedPlan) :
    (s.acceptPlan n tag plan).pending = s.pending := by
  unfold State.acceptPlan
  simp only
  split
  · rfl
  · exact State.takePlan_pending _ n plan

@[simp] theorem State.examineSlot_pending (s : State) (n : LaneId) (slot : Vector Byte 64) : (s.examineSlot n slot).pending = s.pending := by
  unfold State.examineSlot
  simp only
  split
  · rfl
  split
  · rfl
  split
  · rfl
  split
  · rfl
  · exact s.acceptPlan_pending n _ _

@[simp] theorem State.oweFinalCounts_pending (s : State) : s.oweFinalCounts.pending = s.pending :=
  (congrArg State.pending s.oweFinalCounts_frame :)

@[simp] theorem State.route_pending (s : State) (p : Packet) : (s.route p).pending = s.pending := rfl
@[simp] theorem State.swapTable_pending (s : State) (entries : FilterTable) : (s.swapTable entries).pending = s.pending := rfl
@[simp] theorem State.abandonLoad_pending (s : State) : s.abandonLoad.pending = s.pending := rfl
@[simp] theorem State.failLoad_pending (s : State) : s.failLoad.pending = s.pending := rfl

@[simp] theorem State.takeBlock_pending (s : State) (j : Fin 8) (block : Vector Byte 256) : (s.takeBlock j block).pending = s.pending := by
  unfold State.takeBlock
  split
  · rfl
  · rfl
  · rfl
  · split <;> rfl

@[simp] theorem State.nameFilter_pending (s : State) : s.nameFilter.pending = s.pending := by
  unfold State.nameFilter
  split
  · rfl
  · rfl
  · split <;> rfl

@[simp] theorem State.fetchStream_pending (s : State) (n : StreamId) (f : StreamFetch) : (s.fetchStream n f).pending = s.pending :=
  State.raiseIf_pending _ _ _

@[simp] theorem State.haltStream_pending (s : State) (n : StreamId) : (s.haltStream n).pending = s.pending := rfl

@[simp] theorem State.markWritten_pending (s : State) (n : StreamId) (c : BufferClose) : (s.markWritten n c).pending = s.pending := by
  simp [State.markWritten]

/-! #### Grants (R159, R161) -/

section
variable {s t : State}

theorem State.issueItem_pending (s : State) (i : AttentionItem) : (s.issueItem i).pending = s.pending := by
  cases i <;> rfl

theorem State.grantWork_pending (granted : s.grantWork = some t) : t.pending = s.pending := by
  unfold State.grantWork at granted
  repeat' split at granted
  all_goals simp only [Option.some.injEq, reduceCtorEq, Option.map_eq_some_iff] at granted
  · exact granted ▸ rfl
  · exact granted ▸ rfl
  all_goals
    obtain ⟨i, -, rfl⟩ := granted
    exact s.issueItem_pending i

theorem State.grantRequest_pending {r : Requester} (granted : s.grantRequest r = some t) : t.pending = s.pending := by
  cases r with
  | fetcher =>
    simp only [State.grantRequest, State.grantFetcher] at granted
    split at granted
    · cases granted
      rfl
    · exact State.grantWork_pending granted
  | stream n =>
    simp only [State.grantRequest, State.grantStream] at granted
    split at granted
    · cases granted
      rfl
    · split at granted <;> cases granted
      rfl
  | status r =>
    simp only [State.grantRequest, State.grantStatus] at granted
    split at granted <;> cases granted
    rfl

theorem State.grantSlot_pending (s : State) (n : StreamId) : (s.grantSlot n).pending = s.pending := by
  unfold State.grantSlot
  split <;> rfl

theorem State.grantAmong_pending {queue later : List Requester} {slots : List StreamId} (granted : s.grantAmong queue later slots = some t) :
    t.pending = s.pending := by
  rcases s.grantAmong_cases queue later slots t granted with classOne | ⟨-, n, -, rfl⟩
  · obtain ⟨-, r, rest, -, issued⟩ := s.grantQueue_cases later queue t classOne
    exact State.grantRequest_pending (s := s.setQueue (rest ++ later)) issued
  · exact State.grantSlot_pending _ n

@[simp] theorem State.grantWith_pending (s : State) (requestsWait slotWaits : Bool) :
    (s.grantWith requestsWait slotWaits).pending = s.pending := by
  rcases s.grantWith_cases requestsWait slotWaits with ⟨t, granted, same⟩ | ⟨t, -, granted, same⟩ | same <;> rw [same]
  · exact State.grantAmong_pending (s := s.endRace) granted
  · exact State.grantAmong_pending (s := s.endRace) granted
  · rfl

end

/-! ### The waiting commands: device states (spec/10) -/

@[simp] theorem State.enterLoading_pending (s : State) : s.enterLoading.pending = s.pending := rfl
@[simp] theorem State.enterFaulted_pending (s : State) (reason : LoadFault) : (s.enterFaulted reason).pending = s.pending := rfl
@[simp] theorem State.abandonStation_pending (s : State) : s.abandonStation.pending = s.pending := rfl

@[simp] theorem State.finishLoad_pending (s : State) (block : Vector Byte 256) : (s.finishLoad block).pending = s.pending := by
  unfold State.finishLoad
  split <;> rfl

@[simp] theorem State.enterStopping_pending (s : State) : s.enterStopping.pending = s.pending := by
  rw [s.enterStopping_eq]
  rfl

@[simp] theorem State.endStopping_pending (s : State) : s.endStopping.pending = s.pending := by
  unfold State.endStopping
  simp only
  split <;> rfl

/-! ### Every command (log entries 3, 11 and 13) -/

/-- The outcome of a command run in `s` is a next state, with the same commands waiting as in `s`. -/
def Continues (s : State) (o : Host.Outcome State Fault Refusal) : Prop :=
  ∃ t, o = .next t ∧ t.pending = s.pending

@[simp] theorem continues_next {s t : State} : Continues s (.next t) ↔ t.pending = s.pending :=
  ⟨fun ⟨_, same, kept⟩ => by cases same; exact kept, fun kept => ⟨t, rfl, kept⟩⟩

/-- Each arm answers next states on all its branches, and each is made by operations that keep the queue. -/
theorem exec_continues (c : Instr) (s : State) : Continues s (exec c s) := by
  cases c
  case softReset | powerOnReset | stationTimerTick => exact continues_next.2 rfl
  case impulseEvent | magnitudeFallsBack =>
    dsimp only [exec, execImpulseEvent, execMagnitudeFallsBack]
    split
    all_goals simp
  case symbolReport | surveyReport | seekTimerExpiry | surveyIntervalExpiry | applyWindowExpiry | packetGate =>
    dsimp only [exec, execSymbolReport, execSurveyReport, execSeekTimerExpiry, execSurveyIntervalExpiry, execApplyWindowExpiry,
      execPacketGate]
    repeat' split
    all_goals simp
  case routePacket | filterSwap | flushTimerExpiry | transferGrant =>
    dsimp only [exec, execRoutePacket, execFilterSwap, execFlushTimerExpiry, execTransferGrant]
    repeat' split
    all_goals simp
  case stationBlockReadComplete | laneSlotReadComplete | filterBlockReadComplete | streamRecordReadComplete | bufferRecordReadComplete =>
    dsimp only [exec, execStationBlockReadComplete, execLaneSlotReadComplete, execFilterBlockReadComplete, execStreamRecordReadComplete,
      execBufferRecordReadComplete]
    repeat' split
    all_goals simp
  case laneSlotWriteBackComplete | fillingWriteComplete | slotWriteComplete | closingFieldsWriteComplete | markWriteComplete
      | emptyMarkWriteComplete | streamWriteBackComplete | statusRecordWriteComplete =>
    dsimp only [exec, execLaneSlotWriteBackComplete, execFillingWriteComplete, execSlotWriteComplete, execClosingFieldsWriteComplete,
      execMarkWriteComplete, execEmptyMarkWriteComplete, execStreamWriteBackComplete, execStatusRecordWriteComplete]
    repeat' split
    all_goals simp
  case statusIntervalExpiry | stopComplete | runSet | runClear =>
    dsimp only [exec, execStatusIntervalExpiry, execStopComplete, execRunSet, execRunClear]
    split
    all_goals simp
  case exchangeBaseLow | exchangeBaseHigh | attentionLane | attentionStream | attentionFilter | attentionStatusNow =>
    dsimp only [exec, execExchangeBaseLow, execExchangeBaseHigh, execAttentionLane, execAttentionStream, execAttentionFilter,
      execAttentionStatusNow]
    split
    all_goals simp
  case noticeClear | noticeEnable | registerWriteIgnored => exact continues_next.2 rfl

/-- Settles O2: `exec_continues`, which is the statement for one command and one state. -/
theorem everyCommandGivesNextState : Obligations.EveryCommandGivesNextState :=
  exec_continues

/-! ### One step (log entry 10) -/

/-- Settles O1: of the two cases of `step` the queue given is the one with a command at its front. -/
theorem stepRunsFrontCommand : Obligations.StepRunsFrontCommand := by
  intro c rest s queue
  unfold step
  rw [queue]

end Sys2Proof.Machine
end
